-- ==== Sys2Proof/Word.lean ====
section
/-! DEFINITION. The word types of the Kavelin 2440 and access to tables of fixed size. -/

namespace Sys2Proof

/-- One byte of a record, a ticket or a frame. -/
abbrev Byte := BitVec 8

/-- The contents of one 32-bit register or header field. -/
abbrev Reg := BitVec 32

/-- The table `v` with the value `x` at index `i`. -/
def putAt {α : Type} {n : Nat} (v : Vector α n) (i : Fin n) (x : α) : Vector α n :=
  v.set i.val x i.isLt

/-- The value at index `i` of a table. -/
def getAt {α : Type} {n : Nat} (v : Vector α n) (i : Fin n) : α := v.get i

end Sys2Proof
end

