-- ==== Sys2Proof/Syntax.lean ====
section
/-! DEFINITION. The commands of the Kavelin 2440: one constructor for each row of
spec/opcode_table.json. A command carries what comes from outside the block with it: a register value,
the data a read returns, a frame's header, the lane or site it happens at. A ticket's fields are no
operand: the ticket executed is the one at the head of the ticket buffer (R12, R13). -/

namespace Sys2Proof

/-- The two registers whose writes are ignored (R3). -/
inductive ReadOnlyReg where
  | status
  | clock
  deriving DecidableEq, Repr

/-- The header fields of a frame that a site sends (R127, R129, Table 11-11). The kind is the command's
row, and the frame check has already been found right. -/
structure InFrame where
  runTag : BitVec 32
  sender : BitVec 16
  addressee : BitVec 16
  reason : BitVec 8
  generation : BitVec 8
  index : BitVec 16
  offset : BitVec 32
  length : BitVec 32
  count : BitVec 32
  deriving DecidableEq, Repr

/-- The commands. A read returns under the tag it was issued with (log 3). -/
inductive Instr where
  -- resets (R7), with the carrier each port then reports (R156)
  | powerOnReset (carriers : Vector Bool 4)
  | softReset (carriers : Vector Bool 4)
  -- register writes (R1 to R8)
  | runStart (faultHalt : Bool)
  | runStop (faultHalt : Bool)
  | faultHaltWrite (faultHalt : Bool)
  | boardLoWrite (value : Reg)
  | boardHiWrite (value : Reg)
  | nudge (value : Reg)
  | ignoredRegisterWrite (register : ReadOnlyReg) (value : Reg)
  -- header and chain reads that return
  | runTagReadDone (tag : Nat) (value : Reg)
  | pollIntervalReadDone (tag : Nat) (value : Reg)
  | chainEntryReadDone (tag : Nat) (value : BitVec 64)
  | ticketReadDone (tag : Nat) (data : Option (List Byte))
  | linkRereadDone (tag : Nat) (data : Option (BitVec 64))
  | faultPresentReadDone (tag : Nat) (value : Byte)
  | freezeReadDone (tag : Nat) (bytes : List Byte)
  | roomReadDone (tag : Nat) (value : Reg)
  | headerReadError (tag : Nat)
  | chainPollTimerExpiry
  -- the ticket in execution
  | window
  | fence
  | fenceDrained
  | site
  | edition
  | lane
  | clock
  | release
  | hold
  | resume
  | recall
  | retry
  | purge
  | target
  | badKind
  -- posted writes
  | postedWriteFailed (position : Nat)
  | postedWriteQueueRoom
  -- segment reads
  | segmentReadDone (tag : Nat) (data : List Byte)
  | segmentReadError (tag : Nat)
  -- timers
  | receiptTimerExpiry (site : Fin 16)
  | probeTimerExpiry (site : Fin 16)
  | replanTimerExpiry (site : Fin 16)
  | quietTimerExpiry (lane : Fin 4)
  -- lanes
  | carrierLost (lane : Fin 4)
  | carrierGained (lane : Fin 4)
  | transmissionComplete (lane : Fin 4)
  | badFrame (lane : Fin 4) (bytes : List Byte)
  | welcome (lane : Fin 4) (frame : InFrame)
  | receipt (lane : Fin 4) (frame : InFrame)
  | refuse (lane : Fin 4) (frame : InFrame)
  | plated (lane : Fin 4) (frame : InFrame)
  | withdrawn (lane : Fin 4) (frame : InFrame)
  | tooLate (lane : Fin 4) (frame : InFrame)
  | targetOk (lane : Fin 4) (frame : InFrame)
  | echo (lane : Fin 4) (frame : InFrame)
  | productionClockTick
  deriving DecidableEq, Repr

end Sys2Proof
end

