-- ==== Sys2Proof/Config.lean ====
section
/-! DEFINITION. The numbers the manual fixes for the Kavelin 2440. The block has no
implementation-defined value and no free value. -/

namespace Sys2Proof.Config

/-- The greatest value of a 32-bit count (R69, R83, R95). -/
def u32Max : Nat := 4294967295

/-- Number of values of a 32-bit word, the modulus of sequence numbers and note indices (R17, R172). -/
def word32 : Nat := 4294967296

/-- One past the highest 64-bit address (R19). -/
def addressTop : Nat := 18446744073709551616

/-- The posted-write queue is full from this many writes (R4). -/
def queueLimit : Nat := 256

/-- Tickets the ticket buffer holds (section 1.4). -/
def bufferLimit : Nat := 4

/-- Greatest poll interval taken, in ms (R11). -/
def pollIntervalMax : Nat := 1000

/-- Notes the ring holds (R175). -/
def ringSize : Nat := 256

/-- Notes the held-note list holds (R172). -/
def heldLimit : Nat := 8

/-- The replan timer's setting, in ms (R91). -/
def replanPeriod : Nat := 250

/-- Greatest payload of a frame and length of a segment (R127, R150). -/
def segmentMax : Nat := 32768

/-- Greatest size of a page (Table 4-1). -/
def sizeMax : Nat := 268435456

/-- Greatest magnitude of a page offset, in ms (R66). -/
def pageOffsetMax : Int := 3600000

/-- Bytes acknowledged at which a measurement closes (R102). -/
def measurementBytes : Nat := 65536

/-- Bytes in one MiB (conventions). -/
def mib : Nat := 1048576

/-- Expiries, and HELLOs, unanswered after which a site is LOST (R135, R146). -/
def retryLimit : Nat := 4

/-- The board's regions (Table 1-2). -/
def ticketArea : Nat := 0x1000
def ticketAreaEnd : Nat := 0x3000
def noteRing : Nat := 0x3000
def siteMirror : Nat := 0x5000
def laneMirror : Nat := 0x5800
def targetMirror : Nat := 0x6000
def deliveryMirror : Nat := 0x10000

/-- Bytes of one ticket (section 1.4). -/
def ticketSize : Nat := 128

/-- The posting byte of a ready ticket and of a retired one (section 1.4). -/
def posted : Nat := 0x5A
def done : Nat := 0xD0

end Sys2Proof.Config
end

