-- ==== Sys2Proof/Machine/Arith.lean ====
section
/-! DEFINITION. The controller's integer arithmetic (spec/00_scope.md, Arithmetic; Clamping and
saturation). -/

namespace Sys2Proof.Machine

/-- ceil(a / b) for a positive `b`. -/
def ceilDiv (a b : Nat) : Nat := (a + b - 1) / b

/-- A natural number clamped to lo..hi. -/
def clampNat (lo hi x : Nat) : Nat := max lo (min hi x)

/-- An integer clamped to lo..hi. -/
def clampInt (lo hi x : Int) : Int := max lo (min hi x)

/-- The sum of two counts, saturating at the greatest 32-bit value (R69, R95). -/
def satAdd (a b : Nat) : Nat := min Config.u32Max (a + b)

/-- The clamp of a slack (R96, R99, R120, R170). -/
def clampSlack (x : Int) : Int := clampInt (-2147483648) 2147483647 x

/-- A deadline: a plate time moved by a page offset, clamped to 0..4,294,967,295 (R49, R69). -/
def deadlineOf (plate : Nat) (offset : Int) : Nat :=
  (clampInt 0 (Config.u32Max : Int) ((plate : Int) + offset)).toNat

end Sys2Proof.Machine
end

