-- ==== Sys2Proof/Machine/Bytes.lean ====
section
/-! DEFINITION. Little-endian fields (spec/00_scope.md, Byte order; spec/11) and the frame check (R127). -/

namespace Sys2Proof.Machine

/-- The `n` bytes of a field holding `v`, lowest first. -/
def le : Nat → Nat → List Byte
  | 0, _ => []
  | n + 1, v => BitVec.ofNat 8 v :: le n (v / 256)

/-- The `n` bytes of a signed field holding `v`, in two's complement (spec/11). -/
def leInt (n : Nat) (v : Int) : List Byte := le n (v % ((256 ^ n : Nat) : Int)).toNat

/-- `n` reserved bytes, written as zero (R187). -/
def zeros (n : Nat) : List Byte := List.replicate n 0

/-- The byte at an offset of a record. -/
def byteAt (b : List Byte) (offset : Nat) : Byte := b.getD offset 0

/-- The unsigned field of `n` bytes at an offset of a record. -/
def field (b : List Byte) (offset : Nat) : Nat → Nat
  | 0 => 0
  | n + 1 => (byteAt b offset).toNat + 256 * field b (offset + 1) n

/-- The signed two-byte field at an offset. -/
def signed16 (b : List Byte) (offset : Nat) : Int :=
  let v := field b offset 2
  if v < 32768 then (v : Int) else (v : Int) - 65536

/-- The signed four-byte field at an offset. -/
def signed32 (b : List Byte) (offset : Nat) : Int :=
  let v := field b offset 4
  if v < 2147483648 then (v : Int) else (v : Int) - 4294967296

/-- A yes or no field held in one bit of a flags byte; the byte's other bits are ignored (R187). -/
def flagAt (b : List Byte) (offset bit : Nat) : Bool := (byteAt b offset).getLsbD bit

/-- A flags byte, bit 0 first. -/
def flagsByte (bits : List Bool) : Byte :=
  BitVec.ofNat 8 (bits.foldr (fun x acc => (if x then 1 else 0) + 2 * acc) 0)

/-- Bytes cut or padded with zeros to a length. -/
def fitBytes (n : Nat) (b : List Byte) : List Byte := b.take n ++ zeros (n - b.length)

/-- `n` shifts of the frame check's register, least significant bit first. The constant is the generator
0x04C11DB7 of R127 with its bits reversed. -/
def crcShift : Nat → Reg → Reg
  | 0, r => r
  | n + 1, r =>
    crcShift n (if r.getLsbD 0 then (r >>> 1) ^^^ 0xEDB88320#32 else r >>> 1)

/-- One byte taken into the register, least significant bit first. -/
def crcByte (r : Reg) (b : Byte) : Reg := crcShift 8 (r ^^^ b.setWidth 32)

/-- The CRC-32 of a byte string: register preset to all ones, final value complemented (R127). That the
final value is read in the reflected register, as the CRC-32 of that generator is: PRESUMED (log 10). -/
def crc32 (bytes : List Byte) : Reg := ~~~ bytes.foldl crcByte 0xFFFFFFFF#32

end Sys2Proof.Machine
end

