-- ==== Sys2Proof/Machine/State.lean ====
section
/-! DEFINITION. The state of the Kavelin 2440, block by block of Figure 0-1, as plain data, and the
state right after reset. -/

namespace Sys2Proof.Machine

/-- A timer: stopped, or running with this many milliseconds left (R83). -/
abbrev Timer := Option Nat

/-- The part states (R3). -/
inductive PartState where
  | idle | running | stalled | halted
  deriving DecidableEq, Repr

/-- The kinds of chain fault and board read fault (section 2.4). -/
inductive FaultKind where
  | linkWindow | ticketRead | notPosted | sequence | boardRead
  deriving DecidableEq, Repr

/-- A ticket as read (section 1.4): its own address and the fields the controller reads. -/
structure Ticket where
  address : Nat
  link : Nat
  sequence : Nat
  kind : Nat
  posting : Nat
  body : List Byte
  deriving DecidableEq, Repr

/-- One place of the ticket buffer: a ticket, or the placeholder of a fault (R10). -/
inductive BufferItem where
  | ticket (t : Ticket)
  | placeholder (kind : FaultKind) (address : Nat)
  deriving DecidableEq, Repr

/-- The ticket in execution: handed to its owner, or a FENCE waiting for that many of the oldest writes
queued or issued (R15, R31). -/
inductive Execution where
  | handed
  | fence (waits : Nat)
  deriving DecidableEq, Repr

/-- The last retired ticket: address, sequence number, and its link as last read (R9, R14). -/
structure Retired where
  address : Nat
  sequence : Nat
  link : Nat
  deriving DecidableEq, Repr

/-- What the ticket reader is doing (R9 to R11): stopped; a read of the next link's ticket or of the
chain entry address in flight; waiting at a zero link; re-reading a link; holding a link that the full
buffer has no room for; behind a placeholder. -/
inductive ReaderPhase where
  | stopped | fetching | waiting | rereading | full | blocked
  deriving DecidableEq, Repr

inductive WindowKind where
  | ticket | data
  deriving DecidableEq, Repr

/-- One entry of the window list (section 2.1). -/
structure Window where
  valid : Bool
  kind : WindowKind
  base : Nat
  granules : Nat
  deriving DecidableEq, Repr

/-- Where a stall began (R23). -/
inductive StallOrigin where
  | idle | running
  deriving DecidableEq, Repr

/-- The write-fault latch when it holds a failure: the board offset names the area too (R30). -/
structure WriteFault where
  offset : Nat
  more : Bool
  deriving DecidableEq, Repr

/-- One posted write: a board write with the address it was formed with, or the MSI (R4, R179). -/
inductive PostedWrite where
  | board (address offset : Nat) (data : List Byte)
  | msi
  deriving DecidableEq, Repr

/-- A write issued to the link and not yet completed. `stale` marks one issued before a soft reset, whose
failure is not latched (R30). -/
structure IssuedWrite where
  write : PostedWrite
  stale : Bool
  deriving DecidableEq, Repr

/-- A segment read (R152): the site and lane of the grant, the handle, offset and length fixed at it,
whether it resends a message, and whether the lane's transmitter is still GRANTED to it (R153, R163). -/
structure SegmentRead where
  site : Fin 16
  lane : Fin 4
  index : Fin 4096
  generation : Byte
  offset : Nat
  length : Nat
  resend : Bool
  holds : Bool
  deriving DecidableEq, Repr

/-- What a read in flight reads. `link` re-reads a ticket's link field and `entryReread` the chain entry
address (R11). `readIndex true` is the writer's room read, `readIndex false` a NUDGE's (R178). -/
inductive ReadKind where
  | runTag | pollInterval | chainEntry | ticket | link | entryReread | faultPresent | freeze
  | readIndex (room : Bool)
  | segment (r : SegmentRead)
  deriving DecidableEq, Repr

/-- A read in flight. One that is not live is discarded when it returns (R6, R7, R24). -/
structure Read where
  tag : Nat
  kind : ReadKind
  address : Nat
  live : Bool
  deriving DecidableEq, Repr

/-- Eight colour values in the quantity sequence of chapter 6. -/
abbrev Values := Vector Nat 8

/-- A site record (Table 3-1). -/
structure SiteRecord where
  enabled : Bool
  lane : Fin 4
  station : Nat
  pace : Nat
  window : Nat
  receiptTimeout : Nat
  probeInterval : Nat
  margin : Nat
  hold : Nat
  driftCompare : Nat
  offsets : Vector Int 8
  limits : Vector (Nat × Nat) 8
  deriving DecidableEq, Repr

/-- An edition record (R46). -/
structure Edition where
  defined : Bool
  code : Nat
  subscribed : Vector Bool 16
  plates : Vector (Option Nat) 16
  deriving DecidableEq, Repr

/-- Delivery states (Table 4-2). -/
inductive DeliveryState where
  | waiting | offered | sending | delivered | plated | withdrawing | refused | failed
  deriving DecidableEq, Repr

/-- Reasons of REFUSED and FAILED (Table 4-1). -/
inductive Reason where
  | noSpace | unknownEdition | notScheduled | dataRead | window
  deriving DecidableEq, Repr

/-- Predicted finish and slack, present together (R89). -/
structure Prediction where
  finish : Nat
  slack : Int
  deriving DecidableEq, Repr

/-- An entry in use (Table 4-1). -/
structure Delivery where
  edition : Fin 32
  sect : Nat
  page : Nat
  version : Nat
  site : Fin 16
  state : DeliveryState
  current : Bool
  held : Bool
  atRisk : Bool
  late : Bool
  replate : Bool
  dataAddress : Nat
  size : Nat
  pageOffset : Int
  deadline : Nat
  releaseNumber : Nat
  sent : Nat
  acked : Nat
  prediction : Option Prediction
  reason : Option Reason
  platedTime : Option Nat
  deriving DecidableEq, Repr

/-- One entry of the delivery table: its generation, and its delivery while it is in use (R51, R52). -/
structure Slot where
  generation : Byte
  use : Option Delivery
  deriving DecidableEq, Repr

/-- A handle: index and generation (R54). -/
structure Handle where
  index : Fin 4096
  generation : Byte
  deriving DecidableEq, Repr

/-- A measurement in progress (R85, R101). -/
structure Measurement where
  start : Nat
  bytes : Nat
  deriving DecidableEq, Repr

/-- A site planner (R85), with the effective pace and the minimum slack of its last replan, the entries
whose finish and slack have become absent since (R92), and whether the replan timer has run out with its
expiry not yet taken (R108; log 30). -/
structure Planner where
  order : List (Fin 4096)
  factor : Nat
  measurement : Option Measurement
  drift : Int
  timer : Timer
  lastPace : Nat
  minSlack : Option Int
  absent : List (Fin 4096)
  expired : Bool
  deriving DecidableEq, Repr

inductive TargetState where
  | none | pending | sent | confirmed
  deriving DecidableEq, Repr

/-- A target record (Table 6-1). -/
structure TargetRecord where
  state : TargetState
  lastSent : Option Values
  pending : Option Values
  clamped : Bool
  number : Nat
  deadline : Option Nat
  deriving DecidableEq, Repr

inductive SiteState where
  | unset | joining | online | lost
  deriving DecidableEq, Repr

/-- A windowed message as the outstanding list names it (R141, R142). -/
inductive Message where
  | offer (h : Handle)
  | segment (h : Handle) (offset length : Nat)
  | target (edition : Fin 32) (code number : Nat) (values : Values)
  | withdraw (h : Handle)
  deriving DecidableEq, Repr

/-- A member of the outstanding list with its resend mark (R133). -/
structure Outstanding where
  message : Message
  resend : Bool
  deriving DecidableEq, Repr

/-- A site protocol engine (R133), and when it last took a RECEIPT (R183). -/
structure Engine where
  state : SiteState
  outstanding : List Outstanding
  probeOutstanding : Bool
  probeResend : Bool
  withdrawQueue : List Handle
  receiptTimer : Timer
  retry : Nat
  helloCount : Nat
  helloDue : Bool
  probeTimer : Timer
  probeDue : Bool
  lastReceipt : Option Nat
  deriving DecidableEq, Repr

inductive LaneState where
  | off | up | down
  deriving DecidableEq, Repr

inductive DownCause where
  | carrier | quiet | disabled
  deriving DecidableEq, Repr

/-- A frame the controller sends (R127, R128), with its frame check. -/
structure Frame where
  runTag : Reg
  sender : Nat
  addressee : Nat
  kind : Nat
  reason : Nat
  generation : Byte
  index : Nat
  offset : Nat
  length : Nat
  count : Nat
  payload : List Byte
  check : Reg
  deriving DecidableEq, Repr

/-- A lane's transmitter (R167). -/
inductive Transmitter where
  | free
  | granted (site : Fin 16)
  | sending (frame : Frame)
  deriving DecidableEq, Repr

/-- A lane: its lane word (Table 8-1) and the rest of its state (chapter 8), and the production time of
its last change (R171). -/
structure Lane where
  enable : Bool
  standby : Option (Fin 4)
  failover : Bool
  quietEnable : Bool
  quietTime : Nat
  state : LaneState
  carrier : Bool
  quietTimer : Timer
  transmitter : Transmitter
  cause : Option DownCause
  changed : Nat
  deriving DecidableEq, Repr

/-- Note kinds (Table 9-1, in the order of their codes). -/
inductive NoteKind where
  | delivered | plated | refused | failed | atRisk | late | replateNeeded | recallTooLate
  | siteOnline | siteLost | laneUp | laneDown | laneFailover | pathSlow | pathFast
  | targetConfirmed | targetClamped | chainFault
  deriving DecidableEq, Repr

/-- The entry a note names (R174). -/
structure NoteEntry where
  index : Fin 4096
  generation : Byte
  edition : Fin 32
  sect : Nat
  page : Nat
  version : Nat
  deriving DecidableEq, Repr

/-- A note (R174). Fields its kind does not use are none. -/
structure Note where
  kind : NoteKind
  site : Option (Fin 16)
  code : Option Nat
  entry : Option NoteEntry
  time : Nat
  value : Int
  deriving DecidableEq, Repr

/-- Names of the mirror records (R172). -/
inductive MirrorKey where
  | delivery (i : Fin 4096)
  | site (i : Fin 16)
  | lane (l : Fin 4)
  | target (p : Fin 512)
  deriving DecidableEq, Repr

/-- What an event hands over, in the order it hands it (R180): a note, a mirror rewrite, or a board
write at an offset. -/
inductive Handing where
  | note (n : Note)
  | mirror (k : MirrorKey)
  | write (offset : Nat) (data : List Byte)
  deriving DecidableEq, Repr

/-- The rewrite counts (R172). -/
structure RewriteCounts where
  delivery : Vector Byte 4096
  site : Vector Byte 16
  lane : Vector Byte 4
  target : Vector Byte 512
  deriving DecidableEq, Repr

/-- What waits for room in the posted-write queue (R4): a command; the grant of a lane (R168); the request
that an accepted SITE ticket made of a site's engine and planner, with the record before and after it, and
the request of its change of pace (R37 to R43); the check of the head behind a retired ticket (R12). -/
inductive Waiter where
  | command (c : Instr)
  | grant (l : Fin 4)
  | siteRequest (i : Fin 16) (old new : SiteRecord)
  | paceRequest (i : Fin 16)
  | headCheck
  deriving DecidableEq, Repr

/-- The state of the block. `pending` is the queue of commands not yet taken, `handed` is empty between
events, and `nextTag` names reads. These three are the model's own. -/
structure State where
  pending : List Instr
  -- registers and part state (R1 to R7)
  part : PartState
  stopping : Bool
  boardLo : Reg
  boardHi : Reg
  run : Bool
  faultHalt : Bool
  noBoard : Bool
  -- board interface (R4)
  queue : List PostedWrite
  issued : List IssuedWrite
  waiting : List Waiter
  handed : List Handing
  reads : List Read
  nextTag : Nat
  msiPermitted : Bool
  -- ticket reader (section 1.4)
  runTag : Reg
  pollInterval : Nat
  pollTimer : Timer
  reader : ReaderPhase
  buffer : List BufferItem
  execution : Option Execution
  lastRetired : Option Retired
  rereadRequest : Bool
  -- window checker and fault unit (chapter 2)
  windows : Vector Window 16
  faultPresent : Bool
  stallOrigin : Option StallOrigin
  latch : Option WriteFault
  -- the tables (chapters 3, 4, 6)
  sites : Vector SiteRecord 16
  editions : Vector Edition 32
  deliveries : Vector Slot 4096
  releaseCounter : Nat
  targets : Vector TargetRecord 512
  -- planners, engines, lanes (chapters 5, 7, 8)
  planners : Vector Planner 16
  engines : Vector Engine 16
  lanes : Vector Lane 4
  -- note and mirror writer (R172)
  writeIndex : Nat
  readIndex : Nat
  heldNotes : List Note
  roomReadInFlight : Bool
  notesFull : Bool
  interruptOutstanding : Bool
  freeze : Vector Bool 16
  rewrites : RewriteCounts
  -- production clock (R83)
  clock : Nat
  deriving DecidableEq, Repr

/-- The block stops with no fault: the manual's own faults are part states and flags that `State` holds
(R23 to R30). Nobody raises one, which is safe: no behaviour is cut off. -/
inductive Fault where
  deriving DecidableEq, Repr

/-- Why a command has no meaning. -/
inductive Refusal where
  /-- Raised by `exec` for a command whose row has no meaning yet, named by the row's mnemonic. Safe: the
  model stops where the hardware goes on. -/
  | notModelled (mnemonic : String)
  deriving DecidableEq, Repr

/-- A window entry after reset: invalid (section 2.1). Kind, base and length: DESIGN CHOICE (log 8). -/
def Window.reset : Window := { valid := false, kind := .ticket, base := 0, granules := 0 }

/-- A site record after reset (Table 3-1). -/
def SiteRecord.reset : SiteRecord :=
  { enabled := false, lane := 0, station := 0, pace := 1000, window := 4, receiptTimeout := 2000,
    probeInterval := 10000, margin := 14, hold := 3, driftCompare := 8,
    offsets := Vector.replicate 8 0,
    limits := #v[(0, 3000), (0, 3000), (0, 3000), (0, 3000), (0, 400), (0, 400), (0, 400), (0, 400)] }

/-- An edition record after reset (R46). -/
def Edition.reset : Edition :=
  { defined := false, code := 0, subscribed := Vector.replicate 16 false,
    plates := Vector.replicate 16 none }

/-- A delivery entry after reset (R51). -/
def Slot.reset : Slot := { generation := 0, use := none }

/-- A planner after reset (R85). The last effective pace: DESIGN CHOICE (log 8). -/
def Planner.reset : Planner :=
  { order := [], factor := 4096, measurement := none, drift := 0, timer := none, lastPace := 0,
    minSlack := none, absent := [], expired := false }

/-- A target record after reset (R110). -/
def TargetRecord.reset : TargetRecord :=
  { state := .none, lastSent := none, pending := none, clamped := false, number := 0,
    deadline := none }

/-- An engine after reset (R133). -/
def Engine.reset : Engine :=
  { state := .unset, outstanding := [], probeOutstanding := false, probeResend := false,
    withdrawQueue := [], receiptTimer := none, retry := 0, helloCount := 0, helloDue := false,
    probeTimer := none, probeDue := false, lastReceipt := none }

/-- A lane after reset (R156), its port reporting `carrier`. The time of the last change: DESIGN CHOICE
(log 8). -/
def Lane.reset (carrier : Bool) : Lane :=
  { enable := false, standby := none, failover := false, quietEnable := false, quietTime := 10,
    state := .off, carrier := carrier, quietTimer := none, transmitter := .free, cause := none,
    changed := 0 }

/-- The rewrite counts after reset (R172). -/
def RewriteCounts.reset : RewriteCounts :=
  { delivery := Vector.replicate 4096 0, site := Vector.replicate 16 0,
    lane := Vector.replicate 4 0, target := Vector.replicate 512 0 }

/-- The block right after a power-on reset whose ports report these carriers (R7 and the reset rules of
each chapter). That no stall origin is held while fault present is clear: DESIGN CHOICE (log 8). -/
def State.resetWith (carriers : Vector Bool 4) : State :=
  { pending := [], part := .idle, stopping := false, boardLo := 0, boardHi := 0, run := false,
    faultHalt := false, noBoard := false, queue := [], issued := [], waiting := [], handed := [],
    reads := [], nextTag := 0, msiPermitted := true, runTag := 0, pollInterval := 0,
    pollTimer := none, reader := .stopped, buffer := [], execution := none, lastRetired := none,
    rereadRequest := false, windows := Vector.replicate 16 Window.reset, faultPresent := false,
    stallOrigin := none, latch := none, sites := Vector.replicate 16 SiteRecord.reset,
    editions := Vector.replicate 32 Edition.reset, deliveries := Vector.replicate 4096 Slot.reset,
    releaseCounter := 0, targets := Vector.replicate 512 TargetRecord.reset,
    planners := Vector.replicate 16 Planner.reset, engines := Vector.replicate 16 Engine.reset,
    lanes := carriers.map Lane.reset, writeIndex := 0, readIndex := 0, heldNotes := [],
    roomReadInFlight := false, notesFull := false, interruptOutstanding := false,
    freeze := Vector.replicate 16 false, rewrites := RewriteCounts.reset, clock := 0 }

/-- The machine right after reset. No port reports carrier yet: DESIGN CHOICE (log 7), as is the MSI
permission (log 9). -/
def State.reset : State := State.resetWith (Vector.replicate 4 false)

end Sys2Proof.Machine
end

