-- ==== Sys2Proof/Machine/Ops.lean ====
section
/-! DEFINITION. The named operations over the block's tables, reads and posted writes, and the questions
the rules ask of the tables. -/

namespace Sys2Proof.Machine

/-! ### Tables -/

def State.site (s : State) (i : Fin 16) : SiteRecord := getAt s.sites i
def State.engine (s : State) (i : Fin 16) : Engine := getAt s.engines i
def State.planner (s : State) (i : Fin 16) : Planner := getAt s.planners i
def State.lane (s : State) (l : Fin 4) : Lane := getAt s.lanes l
def State.edition (s : State) (e : Fin 32) : Edition := getAt s.editions e
def State.slot (s : State) (i : Fin 4096) : Slot := getAt s.deliveries i
/-- The delivery an entry holds, none while it is free (R51). -/
def State.entry (s : State) (i : Fin 4096) : Option Delivery := (s.slot i).use

/-- Position of the target record of an edition at a site (R110, R185). -/
def pairIndex (e : Fin 32) (i : Fin 16) : Fin 512 := ⟨e.val * 16 + i.val, by omega⟩

def State.target (s : State) (e : Fin 32) (i : Fin 16) : TargetRecord := getAt s.targets (pairIndex e i)

def State.setSite (s : State) (i : Fin 16) (r : SiteRecord) : State :=
  { s with sites := putAt s.sites i r }
def State.setEngine (s : State) (i : Fin 16) (e : Engine) : State :=
  { s with engines := putAt s.engines i e }
def State.setPlanner (s : State) (i : Fin 16) (p : Planner) : State :=
  { s with planners := putAt s.planners i p }
def State.setLane (s : State) (l : Fin 4) (x : Lane) : State :=
  { s with lanes := putAt s.lanes l x }
def State.setEdition (s : State) (e : Fin 32) (x : Edition) : State :=
  { s with editions := putAt s.editions e x }
def State.setSlot (s : State) (i : Fin 4096) (x : Slot) : State :=
  { s with deliveries := putAt s.deliveries i x }

/-- All sites, editions, lanes, in ascending index. -/
def allSites : List (Fin 16) := List.finRange 16
def allEditions : List (Fin 32) := List.finRange 32
def allLanes : List (Fin 4) := List.finRange 4

/-! ### Handing over (R180) -/

/-- Hand one note, mirror rewrite or board write in the event in progress. -/
def State.hand (s : State) (h : Handing) : State := { s with handed := s.handed ++ [h] }

/-- Hand several, in order. -/
def State.handAll (s : State) (hs : List Handing) : State := { s with handed := s.handed ++ hs }

/-! ### The board and its writes -/

/-- The board base (R1). -/
def State.base (s : State) : Nat := s.boardHi.toNat * Config.word32 + s.boardLo.toNat

/-- A board write takes its address when it is placed (R1, R20). -/
def State.boardWrite (s : State) (offset : Nat) (data : List Byte) : PostedWrite :=
  .board (s.base + offset) offset data

/-- Place writes at the end of the posted-write queue (R4). -/
def State.place (s : State) (ws : List PostedWrite) : State := { s with queue := s.queue ++ ws }

/-- The queue is full while it holds 256 writes or more (R4). -/
def State.queueFull (s : State) : Bool := decide (Config.queueLimit ≤ s.queue.length)

/-! ### Reads of host memory -/

/-- Issue a read: it goes out at once, not behind the writes (R4). -/
def State.issueRead (s : State) (kind : ReadKind) (address : Nat) : State :=
  { s with reads := s.reads ++ [{ tag := s.nextTag, kind := kind, address := address, live := true }],
           nextTag := s.nextTag + 1 }

/-- Issue a read of a header field (R20). -/
def State.issueHeaderRead (s : State) (kind : ReadKind) (offset : Nat) : State :=
  s.issueRead kind (s.base + offset)

/-- The reads of the chain: tickets, links and the chain entry address (R6, R24; log 12). -/
def ReadKind.ofChain : ReadKind → Bool
  | .ticket | .link | .entryReread | .chainEntry => true
  | _ => false

/-- Abandon the chain reads in flight: they are discarded when they return (R6, R24). -/
def State.abandonChainReads (s : State) : State :=
  { s with reads := s.reads.map fun r => if r.kind.ofChain then { r with live := false } else r }

/-- The grants of a lane's segment reads are withdrawn (R163). -/
def State.withdrawGrants (s : State) (l : Fin 4) : State :=
  { s with reads := s.reads.map fun r =>
      match r.kind with
      | .segment g => if g.lane = l then { r with kind := .segment { g with holds := false } } else r
      | _ => r }

/-! ### Windows (R18, R20) -/

/-- The bytes addr to addr + size − 1 lie wholly inside a valid entry of the kind (R18). -/
def Window.covers (w : Window) (kind : WindowKind) (address size : Nat) : Bool :=
  w.valid && decide (w.kind = kind) && decide (w.base ≤ address) &&
    decide (address + size ≤ w.base + w.granules * 4096)

/-- A page-data range is admitted by one DATA window that holds it whole (R20, R22, R67). -/
def State.dataAdmitted (s : State) (address size : Nat) : Bool :=
  s.windows.toList.any fun w => w.covers .data address size

/-- The 128 bytes at an address lie wholly inside the board ticket area (R10, R20). -/
def State.inTicketArea (s : State) (address : Nat) : Bool :=
  decide (s.base + Config.ticketArea ≤ address) &&
    decide (address + Config.ticketSize ≤ s.base + Config.ticketAreaEnd)

/-- A ticket's 128 bytes are admitted (R10, R20, R21). -/
def State.ticketAdmitted (s : State) (address : Nat) : Bool :=
  s.inTicketArea address ||
    s.windows.toList.any fun w => w.covers .ticket address Config.ticketSize

/-! ### Questions about the tables -/

/-- The entries in use of a list of slots whose first index is `n`, in ascending index. -/
def scanInUse : List Slot → Nat → List (Fin 4096 × Delivery)
  | [], _ => []
  | x :: rest, n =>
    match x.use with
    | none => scanInUse rest (n + 1)
    | some d => (Fin.ofNat 4096 n, d) :: scanInUse rest (n + 1)

/-- The delivery entries in use, in ascending index. -/
def State.inUse (s : State) : List (Fin 4096 × Delivery) := scanInUse s.deliveries.toList 0

/-- The lowest free index of a list of slots whose first index is `n`. -/
def scanFree : List Slot → Nat → Option (Fin 4096)
  | [], _ => none
  | x :: rest, n => if x.use.isNone then some (Fin.ofNat 4096 n) else scanFree rest (n + 1)

/-- The free entry with the lowest index (R52). -/
def State.firstFree (s : State) : Option (Fin 4096) := scanFree s.deliveries.toList 0

/-- The number of free entries (R68). -/
def State.freeCount (s : State) : Nat := 4096 - s.inUse.length

/-- The number of entries in use that belong to a site (R37). -/
def State.siteEntryCount (s : State) (i : Fin 16) : Nat :=
  (s.inUse.filter fun p => decide (p.2.site = i)).length

/-- The enabled sites, ascending. -/
def State.enabledSites (s : State) : List (Fin 16) := allSites.filter fun i => (s.site i).enabled

/-- A site is a subscriber of an edition (R46). -/
def State.isSubscriber (s : State) (e : Fin 32) (i : Fin 16) : Bool :=
  (s.edition e).defined && getAt (s.edition e).subscribed i &&
    (getAt (s.edition e).plates i).isSome && (s.site i).enabled

/-- The subscribers of an edition, ascending (R46). -/
def State.subscribers (s : State) (e : Fin 32) : List (Fin 16) := allSites.filter (s.isSubscriber e)

/-- The sites carried on a lane, ascending (R156). -/
def State.carried (s : State) (l : Fin 4) : List (Fin 16) :=
  allSites.filter fun i => (s.site i).enabled && decide ((s.site i).lane = l)

/-- The handle an entry has now. -/
def State.handleOf (s : State) (i : Fin 4096) : Handle := ⟨i, (s.slot i).generation⟩

/-- The delivery a handle names, if the entry is in use with that generation (R54). -/
def State.named (s : State) (h : Handle) : Option Delivery :=
  if (s.slot h.index).generation = h.generation then s.entry h.index else none

end Sys2Proof.Machine
end

