-- ==== Sys2Proof/Machine/Flags.lean ====
section
/-! DEFINITION. Every flag the manual computes: the STATUS flags, a delivery's flags, quiet in force, and
the clamped-fields mask. -/

namespace Sys2Proof.Machine

/-! ### STATUS (R3, Table 11-1) -/

/-- WRITE_FAULT_PENDING: the write-fault latch holds a failure (R30). -/
def State.writeFaultPending (s : State) : Bool := s.latch.isSome

/-! ### Delivery flags (R55, R56, R89, R98) -/

/-- The states whose entries belong to the site order (Table 4-2, R86). -/
def DeliveryState.inOrder : DeliveryState → Bool
  | .waiting | .offered | .sending => true
  | _ => false

/-- An entry is in its site's prediction set (R89). -/
def Delivery.predicted (d : Delivery) : Bool := d.state.inOrder && !d.held

/-- An entry outside the prediction set has no finish, no slack and no AT_RISK (R89, R98). -/
def Delivery.settled (d : Delivery) : Delivery :=
  if d.predicted then d else { d with prediction := none, atRisk := false }

/-- AT_RISK after a replan that gives slack `slack`, with margin exponent `m` (R97). -/
def atRiskAfter (m : Nat) (slack : Int) (before : Bool) : Bool :=
  if slack < ((2 ^ m : Nat) : Int) then true
  else if slack < ((2 ^ (m + 1) : Nat) : Int) then before
  else false

/-- LATE is to be set: not set yet, the state is judged, and now is above the deadline (R99). -/
def Delivery.becomesLate (d : Delivery) (now : Nat) : Bool :=
  !d.late && decide (d.deadline < now) &&
    decide (d.state ≠ .delivered ∧ d.state ≠ .plated ∧ d.state ≠ .withdrawing)

/-! ### Lanes (R156) -/

/-- Quiet is in force while quiet enable or failover enable is set. -/
def Lane.quietInForce (x : Lane) : Bool := x.quietEnable || x.failover

/-- The quiet timer's setting. -/
def Lane.quietSetting (x : Lane) : Timer :=
  if x.quietInForce then some (x.quietTime * 1000) else none

/-! ### Clamped-fields mask (Table 11-4) -/

def maskBit (n : Nat) (clamped : Bool) : Nat := if clamped then 2 ^ n else 0
def maskPace : Nat := 0
def maskWindow : Nat := 1
def maskReceiptTimeout : Nat := 2
def maskProbeInterval : Nat := 3
def maskMargin : Nat := 4
def maskHold : Nat := 5
def maskDriftCompare : Nat := 6
def maskOffsets : Nat := 7
def maskLimits : Nat := 8
def maskPageOffset : Nat := 9
def maskQuietTime : Nat := 10

end Sys2Proof.Machine
end

