-- ==== Sys2Proof/Machine/Operands.lean ====
section
/-! DEFINITION. The operand forms: the ticket header and the body of every ticket kind (Tables 11-3 to
11-5), and the header of an arriving frame (Table 11-11). Reserved bytes and bits are ignored (R187). -/

namespace Sys2Proof.Machine

/-! ### Ticket codes (Table 11-4) -/

def kindWindow : Nat := 0x01
def kindFence : Nat := 0x02
def kindSite : Nat := 0x03
def kindEdition : Nat := 0x04
def kindLane : Nat := 0x05
def kindClock : Nat := 0x06
def kindRelease : Nat := 0x10
def kindHold : Nat := 0x11
def kindResume : Nat := 0x12
def kindRecall : Nat := 0x13
def kindRetry : Nat := 0x14
def kindPurge : Nat := 0x15
def kindTarget : Nat := 0x20

/-- The kinds of Table 1-3. Any other kind is BAD_KIND (R13). -/
def ticketKinds : List Nat :=
  [kindWindow, kindFence, kindSite, kindEdition, kindLane, kindClock, kindRelease, kindHold, kindResume,
   kindRecall, kindRetry, kindPurge, kindTarget]

/-- A ticket as its 128 bytes give it (Table 11-3). -/
def Ticket.ofBytes (address : Nat) (b : List Byte) : Ticket :=
  { address := address, link := field b 0x00 8, sequence := field b 0x08 4, kind := field b 0x0C 1,
    posting := field b 0x0D 1, body := b.drop 0x20 }

/-- Outcome codes (R16, Table 11-4). -/
inductive Code where
  | ok | badKind | badField | staleVersion | tableFull | noEdition | noSubscribers | siteBusy
  | outOfWindow | writeFault
  deriving DecidableEq, Repr

def Code.value : Code → Nat
  | .ok => 0 | .badKind => 1 | .badField => 2 | .staleVersion => 3 | .tableFull => 4 | .noEdition => 5
  | .noSubscribers => 6 | .siteBusy => 7 | .outOfWindow => 8 | .writeFault => 9

/-- What an owner states of a ticket (R13): outcome, clamped-fields mask and result words. -/
structure Result where
  code : Code
  mask : Nat
  word0 : Nat
  word1 : Nat
  deriving DecidableEq, Repr

/-- A refusal: mask and result words are zero (R16). -/
def Result.refused (c : Code) : Result := ⟨c, 0, 0, 0⟩

/-- An accepted ticket that clamped nothing. -/
def Result.ok (word0 word1 : Nat) : Result := ⟨.ok, 0, word0, word1⟩

/-! ### Ticket bodies (Table 11-5) -/

structure WindowBody where
  entry : Nat
  action : Nat
  kind : Nat
  base : Nat
  granules : Nat
  deriving DecidableEq, Repr

def WindowBody.parse (b : List Byte) : WindowBody :=
  { entry := field b 0x00 1, action := field b 0x01 1, kind := field b 0x02 1, base := field b 0x08 8,
    granules := field b 0x10 4 }

structure SiteBody where
  site : Nat
  enabled : Bool
  lane : Nat
  station : Nat
  pace : Nat
  window : Nat
  margin : Nat
  hold : Nat
  driftCompare : Nat
  receiptTimeout : Nat
  probeInterval : Nat
  offsets : Vector Int 8
  limits : Vector (Nat × Nat) 8
  deriving DecidableEq, Repr

def SiteBody.parse (b : List Byte) : SiteBody :=
  { site := field b 0x00 1, enabled := flagAt b 0x01 0, lane := field b 0x02 1,
    station := field b 0x04 2, pace := field b 0x06 2, window := field b 0x08 1,
    margin := field b 0x09 1, hold := field b 0x0A 1, driftCompare := field b 0x0B 1,
    receiptTimeout := field b 0x0C 2, probeInterval := field b 0x0E 2,
    offsets := Vector.ofFn fun q => signed16 b (0x10 + 2 * q.val),
    limits := Vector.ofFn fun q => (field b (0x20 + 4 * q.val) 2, field b (0x22 + 4 * q.val) 2) }

structure EditionBody where
  edition : Nat
  defined : Bool
  code : Nat
  subscribed : Vector Bool 16
  plates : Vector (Option Nat) 16
  deriving DecidableEq, Repr

/-- A plate time whose present mark is clear is absent, whatever value stands there (R48). -/
def EditionBody.parse (b : List Byte) : EditionBody :=
  { edition := field b 0x00 1, defined := flagAt b 0x01 0, code := field b 0x02 2,
    subscribed := Vector.ofFn fun i => (field b 0x04 2).testBit i.val,
    plates := Vector.ofFn fun i =>
      if (field b 0x06 2).testBit i.val then some (field b (0x08 + 4 * i.val) 4) else none }

structure LaneBody where
  lane : Nat
  enable : Bool
  failover : Bool
  quietEnable : Bool
  standby : Nat
  quietTime : Nat
  deriving DecidableEq, Repr

def LaneBody.parse (b : List Byte) : LaneBody :=
  { lane := field b 0x00 1, enable := flagAt b 0x01 0, failover := flagAt b 0x01 1,
    quietEnable := flagAt b 0x01 2, standby := field b 0x02 1, quietTime := field b 0x03 1 }

/-- The value of a CLOCK ticket. -/
def clockBody (b : List Byte) : Nat := field b 0x00 4

structure ReleaseBody where
  edition : Nat
  sect : Nat
  page : Nat
  version : Nat
  size : Nat
  pageOffset : Int
  dataAddress : Nat
  deriving DecidableEq, Repr

def ReleaseBody.parse (b : List Byte) : ReleaseBody :=
  { edition := field b 0x00 1, sect := field b 0x01 1, page := field b 0x02 2,
    version := field b 0x04 2, size := field b 0x08 4, pageOffset := signed32 b 0x0C,
    dataAddress := field b 0x10 8 }

/-- The pattern of HOLD, RESUME, RECALL and RETRY (R77). -/
structure PatternBody where
  selector : Nat
  anyEdition : Bool
  anySection : Bool
  anyPage : Bool
  edition : Nat
  sect : Nat
  page : Nat
  deriving DecidableEq, Repr

def PatternBody.parse (b : List Byte) : PatternBody :=
  { selector := field b 0x00 1, anyEdition := flagAt b 0x01 0, anySection := flagAt b 0x01 1,
    anyPage := flagAt b 0x01 2, edition := field b 0x02 1, sect := field b 0x03 1,
    page := field b 0x04 2 }

/-- The selector that names every site. -/
def selectorAll : Nat := 0xFF

/-- The edition index of a PURGE ticket. -/
def purgeBody (b : List Byte) : Nat := field b 0x00 1

structure TargetBody where
  edition : Nat
  masters : Values
  deriving DecidableEq, Repr

def TargetBody.parse (b : List Byte) : TargetBody :=
  { edition := field b 0x00 1, masters := Vector.ofFn fun q => field b (0x02 + 2 * q.val) 2 }

/-! ### Arriving frames (Table 11-11) -/

/-- The header fields of a frame's bytes. -/
def InFrame.ofBytes (b : List Byte) : InFrame :=
  { runTag := BitVec.ofNat 32 (field b 0x00 4), sender := BitVec.ofNat 16 (field b 0x04 2),
    addressee := BitVec.ofNat 16 (field b 0x06 2), reason := byteAt b 0x09,
    generation := byteAt b 0x0A, index := BitVec.ofNat 16 (field b 0x0C 2),
    offset := BitVec.ofNat 32 (field b 0x10 4), length := BitVec.ofNat 32 (field b 0x14 4),
    count := BitVec.ofNat 32 (field b 0x18 4) }

/-- The frame check of a frame's bytes: the CRC with the check field taken as zero (R127, R188). -/
def frameCheck (b : List Byte) : Reg := crc32 (b.take 0x3C ++ zeros 4 ++ b.drop 0x40)

/-- A frame passes R130 step 2: its check is right, its length field is at most 32,768 and agrees with
the bytes received. -/
def frameGood (b : List Byte) : Bool :=
  decide (0x40 ≤ b.length) && decide (field b 0x14 4 ≤ Config.segmentMax) &&
    decide (b.length = 0x40 + field b 0x14 4) &&
    decide (field b 0x3C 4 = (frameCheck b).toNat)

/-- The handle an arriving frame names, if its index is one of an entry (R131 step 2). -/
def inHandle (f : InFrame) : Option Handle :=
  if h : f.index.toNat < 4096 then some ⟨⟨f.index.toNat, h⟩, f.generation⟩ else none

/-- A REFUSE's reason; a value that no code names is NOT_SCHEDULED (R61). -/
def refuseReason (code : Byte) : Reason :=
  if code = 1 then .noSpace else if code = 2 then .unknownEdition else .notScheduled

/-- The edition code of a TARGET_OK, in bits 15:0 of the count field (R188). -/
def targetOkCode (f : InFrame) : Nat := f.count.toNat % 65536

end Sys2Proof.Machine
end

