-- ==== Sys2Proof/Machine/Formats.lean ====
section
/-! DEFINITION. The byte layout of every record the controller writes: notes, mirror records, the
retirement log, the fault block and frames (spec/11). Reserved bytes are zero (R187). -/

namespace Sys2Proof.Machine

/-! ### Codes -/

def FaultKind.code : FaultKind → Nat
  | .linkWindow => 1 | .ticketRead => 2 | .notPosted => 3 | .sequence => 4 | .boardRead => 5

def PartState.code : PartState → Nat
  | .idle => 0 | .running => 1 | .stalled => 2 | .halted => 3

def NoteKind.code : NoteKind → Nat
  | .delivered => 1 | .plated => 2 | .refused => 3 | .failed => 4 | .atRisk => 5 | .late => 6
  | .replateNeeded => 7 | .recallTooLate => 8 | .siteOnline => 9 | .siteLost => 10 | .laneUp => 11
  | .laneDown => 12 | .laneFailover => 13 | .pathSlow => 14 | .pathFast => 15
  | .targetConfirmed => 16 | .targetClamped => 17 | .chainFault => 18

def DeliveryState.code : DeliveryState → Nat
  | .waiting => 1 | .offered => 2 | .sending => 3 | .delivered => 4 | .plated => 5
  | .withdrawing => 6 | .refused => 7 | .failed => 8

def Reason.code : Reason → Nat
  | .noSpace => 1 | .unknownEdition => 2 | .notScheduled => 3 | .dataRead => 4 | .window => 5

def SiteState.code : SiteState → Nat
  | .unset => 0 | .joining => 1 | .online => 2 | .lost => 3

def LaneState.code : LaneState → Nat
  | .off => 0 | .up => 1 | .down => 2

def DownCause.code : DownCause → Nat
  | .carrier => 1 | .quiet => 2 | .disabled => 3

def TargetState.code : TargetState → Nat
  | .none => 0 | .pending => 1 | .sent => 2 | .confirmed => 3

/-! ### Notes (Table 11-6) -/

def noteBytes (n : Note) : List Byte :=
  le 1 n.kind.code ++ le 1 (n.site.elim 0xFF Fin.val) ++
    [flagsByte [n.code.isSome, n.entry.isSome]] ++ le 1 (n.entry.elim 0 fun e => e.generation.toNat) ++
    le 2 (n.code.getD 0) ++ le 2 (n.entry.elim 0 fun e => e.index.val) ++
    le 1 (n.entry.elim 0 fun e => e.edition.val) ++ le 1 (n.entry.elim 0 NoteEntry.sect) ++
    le 1 (n.entry.elim 0 NoteEntry.page) ++ le 1 (n.entry.elim 0 NoteEntry.version) ++
    le 4 n.time ++ leInt 4 n.value ++ zeros 12

/-! ### Mirror records (Tables 11-7 to 11-10) -/

/-- The body of a delivery record, between the stamps. A FREE record is zero there. -/
def deliveryBody (use : Option Delivery) : List Byte :=
  match use with
  | none => zeros 60
  | some d =>
    le 1 d.state.code ++ [flagsByte [d.current, d.held, d.atRisk, d.late, d.replate]] ++
      le 1 d.site.val ++
      [flagsByte [d.prediction.isSome, d.reason.isSome, d.platedTime.isSome]] ++ le 1 d.edition.val ++
      le 1 d.sect ++ le 1 d.page ++ le 1 d.version ++ le 1 (d.reason.elim 0 Reason.code) ++ zeros 1 ++
      le 4 d.size ++ leInt 4 d.pageOffset ++ le 4 d.deadline ++ le 4 d.releaseNumber ++ le 4 d.sent ++
      le 4 d.acked ++ le 4 (d.prediction.elim 0 Prediction.finish) ++
      leInt 4 (d.prediction.elim 0 Prediction.slack) ++ le 4 (d.platedTime.getD 0) ++
      le 8 d.dataAddress ++ zeros 6

/-- The number of a site's entries in a delivery state (R183). -/
def State.countIn (s : State) (i : Fin 16) (st : DeliveryState) : Nat :=
  (s.inUse.filter fun p => decide (p.2.site = i) && decide (p.2.state = st)).length

/-- The eight delivery states in code order. -/
def deliveryStates : List DeliveryState :=
  [.waiting, .offered, .sending, .delivered, .plated, .withdrawing, .refused, .failed]

/-- The body of a site record as the site stands now (R183). -/
def State.siteBody (s : State) (i : Fin 16) : List Byte :=
  let r := s.site i
  let e := s.engine i
  let p := s.planner i
  [flagsByte [r.enabled, p.minSlack.isSome, e.lastReceipt.isSome]] ++ le 1 e.state.code ++
    le 1 r.lane.val ++ leInt 1 p.drift ++ le 2 r.station ++ le 2 p.factor ++ le 1 e.retry ++
    le 1 e.outstanding.length ++ le 4 p.lastPace ++
    deliveryStates.flatMap (fun st => le 2 (s.countIn i st)) ++ leInt 4 (p.minSlack.getD 0) ++
    le 4 (e.lastReceipt.getD 0) ++ le 4 s.clock ++ zeros 82

/-- The body of a lane record (R185). -/
def State.laneBody (s : State) (l : Fin 4) : List Byte :=
  let x := s.lane l
  [flagsByte [x.enable, x.failover, x.quietEnable, x.quietInForce, x.carrier]] ++ le 1 x.state.code ++
    le 1 (x.standby.elim 0xFF Fin.val) ++ le 1 x.quietTime ++ le 1 (x.cause.elim 0 DownCause.code) ++
    le 1 (s.carried l).length ++ le 4 x.changed ++ zeros 50

/-- The values a target record shows, with their code in bits 5:4 of the flags byte (R185). -/
def TargetRecord.shown (t : TargetRecord) : Nat × Values :=
  match t.state, t.lastSent, t.pending with
  | .none, _, _ => (0, Vector.replicate 8 0)
  | _, some v, _ => (1, v)
  | _, none, some v => (2, v)
  | _, none, none => (0, Vector.replicate 8 0)

/-- Eight values of two bytes each. -/
def valueBytes (v : Values) : List Byte := v.toList.flatMap (le 2)

/-- The body of a target record (R185). The pending mark is set when a SENT record holds newer values. -/
def targetBody (t : TargetRecord) : List Byte :=
  let mark := decide (t.state = .sent) && t.pending.isSome
  le 1 t.state.code ++
    [flagsByte [t.clamped, mark, t.deadline.isSome, false, t.shown.1.testBit 0, t.shown.1.testBit 1]] ++
    le 2 t.number ++ zeros 2 ++ le 4 (t.deadline.getD 0) ++ valueBytes t.shown.2 ++ zeros 2

/-- Board offset and size of a mirror record (Tables 11-7 to 11-10). -/
def MirrorKey.place : MirrorKey → Nat × Nat
  | .delivery i => (Config.deliveryMirror + 64 * i.val, 64)
  | .site i => (Config.siteMirror + 128 * i.val, 128)
  | .lane l => (Config.laneMirror + 64 * l.val, 64)
  | .target p => (Config.targetMirror + 32 * p.val, 32)

/-- A record's rewrite count. -/
def RewriteCounts.count (c : RewriteCounts) : MirrorKey → Byte
  | .delivery i => getAt c.delivery i
  | .site i => getAt c.site i
  | .lane l => getAt c.lane l
  | .target p => getAt c.target p

/-- Step a record's rewrite count, 255 followed by 0 (R181). -/
def RewriteCounts.step (c : RewriteCounts) : MirrorKey → RewriteCounts
  | .delivery i => { c with delivery := putAt c.delivery i (getAt c.delivery i + 1) }
  | .site i => { c with site := putAt c.site i (getAt c.site i + 1) }
  | .lane l => { c with lane := putAt c.lane l (getAt c.lane l + 1) }
  | .target p => { c with target := putAt c.target p (getAt c.target p + 1) }

/-- The body of any mirror record as its table stands. -/
def State.mirrorBody (s : State) : MirrorKey → List Byte
  | .delivery i => deliveryBody (s.entry i)
  | .site i => s.siteBody i
  | .lane l => s.laneBody l
  | .target p => targetBody (getAt s.targets p)

/-- A record's stamp: its rewrite count, and the generation for a delivery record (R181). -/
def State.stamp (s : State) (k : MirrorKey) : List Byte :=
  [s.rewrites.count k, match k with | .delivery i => (s.slot i).generation | _ => 0]

/-- The three writes of a rewrite, lead stamp, body and trail stamp, with the counts already stepped
(R181). -/
def State.rewriteWrites (s : State) (k : MirrorKey) : List PostedWrite :=
  [s.boardWrite k.place.1 (s.stamp k),
   s.boardWrite (k.place.1 + 2) (s.mirrorBody k),
   s.boardWrite (k.place.1 + k.place.2 - 2) (s.stamp k)]

/-! ### Header records (Table 11-2) -/

/-- Outcome, clamped-fields mask and result words, bytes 0x0E to 0x1B of a ticket (Table 11-3). -/
def resultBytes (r : Result) : List Byte :=
  le 1 r.code.value ++ zeros 1 ++ le 2 r.mask ++ zeros 2 ++ le 4 r.word0 ++ le 4 r.word1

/-- A retirement log record (section 11.3). -/
def logBytes (t : Ticket) (r : Result) : List Byte :=
  le 4 t.sequence ++ le 1 t.kind ++ le 1 r.code.value ++ le 2 r.mask ++ le 4 r.word0 ++ le 4 r.word1

/-- The fault block, bytes 0x40 to 0x5B of the header (Tables 2-1 and 11-2). -/
def faultBytes (kind : FaultKind) (entered : PartState) (expected : Option Nat) (address found now : Nat) :
    List Byte :=
  le 1 kind.code ++ le 1 entered.code ++ [flagsByte [expected.isSome]] ++ zeros 5 ++ le 8 address ++
    le 4 found ++ le 4 (expected.getD 0) ++ le 4 now

/-- The freeze echo, one flag per site (R184). -/
def freezeBytes (f : Vector Bool 16) : List Byte :=
  [flagsByte (f.toList.take 8), flagsByte (f.toList.drop 8)]

/-- The area of a board offset, coded as the FENCE reports it (R30, section 11.3, Table 1-2). -/
def areaCode (offset : Nat) : Nat :=
  if offset < Config.ticketArea then 1
  else if offset < Config.ticketAreaEnd then 2
  else if offset < Config.siteMirror then 3
  else if offset < Config.laneMirror then 4
  else if offset < Config.targetMirror then 5
  else if offset < Config.deliveryMirror then 6
  else 7

/-! ### Frames (Table 11-11, R127, R188) -/

def frameHello : Nat := 0x01
def frameOffer : Nat := 0x02
def frameSegment : Nat := 0x03
def frameTarget : Nat := 0x04
def frameWithdraw : Nat := 0x05
def frameProbe : Nat := 0x06

/-- The header of a frame up to its check field. -/
def Frame.headerBytes (f : Frame) : List Byte :=
  le 4 f.runTag.toNat ++ le 2 f.sender ++ le 2 f.addressee ++ le 1 f.kind ++ le 1 f.reason ++
    [f.generation] ++ zeros 1 ++ le 2 f.index ++ zeros 2 ++ le 4 f.offset ++ le 4 f.length ++
    le 4 f.count ++ zeros 32

/-- The frame as it goes over the lane. -/
def Frame.bytes (f : Frame) : List Byte := f.headerBytes ++ le 4 f.check.toNat ++ f.payload

/-- The frame with its check computed, the check field taken as zero (R127). -/
def Frame.checked (f : Frame) : Frame :=
  { f with check := crc32 (f.headerBytes ++ zeros 4 ++ f.payload) }

/-- A frame to a site, with the fields every frame has and zero in all others: the run tag held, sender
0, and the station number of the site record now (R127). -/
def State.commonFrame (s : State) (i : Fin 16) (kind : Nat) : Frame :=
  { runTag := s.runTag, sender := 0, addressee := (s.site i).station, kind := kind, reason := 0,
    generation := 0, index := 0, offset := 0, length := 0, count := 0, payload := [], check := 0 }

def State.helloFrame (s : State) (i : Fin 16) : Frame := (s.commonFrame i frameHello).checked
def State.probeFrame (s : State) (i : Fin 16) : Frame := (s.commonFrame i frameProbe).checked

def State.withdrawFrame (s : State) (i : Fin 16) (h : Handle) : Frame :=
  { s.commonFrame i frameWithdraw with generation := h.generation, index := h.index.val }.checked

/-- The OFFER of an entry, resume offset equal to acked (R58, R128, R188). -/
def State.offerFrame (s : State) (i : Fin 16) (h : Handle) (d : Delivery) : Frame :=
  let payload := le 2 (s.edition d.edition).code ++ le 1 d.sect ++ le 1 d.page ++ le 1 d.version ++
    zeros 3 ++ le 4 d.size ++ le 4 d.deadline
  { s.commonFrame i frameOffer with
    generation := h.generation, index := h.index.val, offset := d.acked, length := 16,
    payload := payload }.checked

def State.segmentFrame (s : State) (i : Fin 16) (h : Handle) (offset length : Nat) (data : List Byte) :
    Frame :=
  { s.commonFrame i frameSegment with
    generation := h.generation, index := h.index.val, offset := offset, length := length,
    payload := fitBytes length data }.checked

def State.targetFrame (s : State) (i : Fin 16) (code number : Nat) (v : Values) : Frame :=
  { s.commonFrame i frameTarget with
    index := number, length := 20, payload := le 2 code ++ zeros 2 ++ valueBytes v }.checked

end Sys2Proof.Machine
end

