-- ==== Sys2Proof/Machine/Writer.lean ====
section
/-! DEFINITION. The note and mirror writer (chapter 9): notes, the held-note list, NOTES_FULL, the
interrupt, mirror rewrites, the start refresh, and the turning of one event's hand-overs into posted
writes (R180). -/

namespace Sys2Proof.Machine

/-! ### Header writes and reads of the writer -/

/-- A header write of the writer, made only while the base is not zero (R173). -/
def State.writerWrite (s : State) (offset : Nat) (data : List Byte) : State :=
  if s.base = 0 then s else s.place [s.boardWrite offset data]

/-- The count of notes written and not yet read, by the cached read index (R175). -/
def State.noteCount (s : State) : Nat :=
  (s.writeIndex + Config.word32 - s.readIndex) % Config.word32

/-- The ring has room for a note (R175). -/
def State.ringRoom (s : State) : Bool := decide (s.noteCount < Config.ringSize)

/-- Issue a room read if none is in flight (R176, R177). In HALTED no header read is made (R25). -/
def State.askRoom (s : State) : State :=
  if s.roomReadInFlight = true ∨ s.part = .halted then s
  else { s.issueHeaderRead (.readIndex true) 0x018 with roomReadInFlight := true }

/-- Set NOTES_FULL, in STATUS and in the header (R177). With the base zero no header write is made (R173);
that the flag is set even so is a DESIGN CHOICE (log 34). -/
def State.setNotesFull (s : State) : State :=
  if s.notesFull then s else { s with notesFull := true }.writerWrite 0x01C [1]

/-- Clear NOTES_FULL, in STATUS and in the header (R177). With the base zero no header write is made (R173);
that the flag is cleared even so is a DESIGN CHOICE (log 34). -/
def State.clearNotesFull (s : State) : State :=
  if s.notesFull then { s with notesFull := false }.writerWrite 0x01C [0] else s

/-! ### Notes (R175 to R179) -/

/-- Raise the MSI if interrupt-outstanding is clear (R179). One that the host's PCIe configuration does
not permit is not sent, but the flag is set. -/
def State.raiseMsi (s : State) : State :=
  if s.interruptOutstanding then s
  else
    { (if s.msiPermitted then s.place [.msi] else s) with interruptOutstanding := true }

/-- Write a note into its slot, step the write index and write it to the header (R175). With the base
zero the note is discarded (R173); that a held note is discarded so too is a DESIGN CHOICE (log 34). -/
def State.writeNote (s : State) (n : Note) : State :=
  if s.base = 0 then s
  else
    let slot := Config.noteRing + 32 * (s.writeIndex % Config.ringSize)
    let next := (s.writeIndex + 1) % Config.word32
    let s1 := { s.place [s.boardWrite slot (noteBytes n)] with writeIndex := next }
    (s1.place [s1.boardWrite 0x014 (le 4 next)]).raiseMsi

/-- A note handed to the writer: discarded with the base zero (R173), lost while NOTES_FULL stands
(R177), written when there is room and none is held (R175), otherwise held, or lost when 8 are held
(R176). -/
def State.takeNote (s : State) (n : Note) : State :=
  if s.base = 0 then s
  else if s.notesFull then s.askRoom
  else if s.heldNotes = [] ∧ s.ringRoom = true then s.writeNote n
  else if Config.heldLimit ≤ s.heldNotes.length then s.setNotesFull
  else { s with heldNotes := s.heldNotes ++ [n] }.askRoom

/-- Take held notes from the front while there is room. The first that finds none is lost with every note
behind it, and NOTES_FULL is set (R176). DESIGN CHOICE: with the base zero, which no rule speaks of here, the
notes that find room are discarded, and one that finds none sets NOTES_FULL with no header write (log 34). -/
def takeHeld : List Note → State → State
  | [], s => { s with heldNotes := [] }
  | n :: rest, s =>
    if s.ringRoom then takeHeld rest (s.writeNote n)
    else { s with heldNotes := [] }.setNotesFull

/-- A read of the note read index returns (R176 to R178), with the base zero as log 34 gives. -/
def State.takeReadIndex (s : State) (value : Nat) (room : Bool) : State :=
  let s1 := { s with readIndex := value,
                     roomReadInFlight := if room then false else s.roomReadInFlight }
  let s2 := if s1.ringRoom then s1.clearNotesFull else s1
  takeHeld s2.heldNotes s2

/-! ### Mirrors (R180, R181, R183) -/

/-- Rewrite a mirror record: step its count and place its three writes (R181). With the base zero
nothing happens and the count does not step (R173). -/
def State.rewrite (s : State) (k : MirrorKey) : State :=
  if s.base = 0 then s
  else
    let s1 := { s with rewrites := s.rewrites.step k }
    s1.place (s1.rewriteWrites k)

/-- A rewrite offered to the writer. A site record's is dropped while the site's freeze copy is set
(R183). -/
def State.takeRewrite (s : State) (k : MirrorKey) : State :=
  match k with
  | .site i => if getAt s.freeze i then s else s.rewrite k
  | _ => s.rewrite k

/-- The hand-overs of one event with every mirror record only at the place of its last handing (R180). -/
def keepLast : List Handing → List Handing
  | [] => []
  | h :: rest =>
    match h with
    | .mirror k => if Handing.mirror k ∈ rest then keepLast rest else h :: keepLast rest
    | _ => h :: keepLast rest

/-- What the writer and the board interface make of one hand-over. -/
def State.perform (s : State) (h : Handing) : State :=
  match h with
  | .note n => s.takeNote n
  | .mirror k => s.takeRewrite k
  | .write offset data => s.place [s.boardWrite offset data]

/-- The end of an event: its hand-overs enter the posted-write queue in order (R180). -/
def State.flush (s : State) : State :=
  (keepLast s.handed).foldl State.perform { s with handed := [] }

/-- Every mirror record in the order of the start refresh (R173). -/
def allMirrors : List MirrorKey :=
  (List.finRange 4096).map .delivery ++ allSites.map .site ++ allLanes.map .lane ++
    (List.finRange 512).map .target

/-- Every rewrite count stepped once. -/
def RewriteCounts.stepAll (c : RewriteCounts) : RewriteCounts :=
  { delivery := c.delivery.map (· + 1), site := c.site.map (· + 1), lane := c.lane.map (· + 1),
    target := c.target.map (· + 1) }

/-- The writes of the start refresh: write index, NOTES_FULL, freeze echo, then every mirror record
whatever the freeze copy holds (R173, R183). The counts have been stepped. -/
def State.refreshWrites (s : State) : List PostedWrite :=
  [s.boardWrite 0x014 (le 4 s.writeIndex), s.boardWrite 0x01C [flagsByte [s.notesFull]],
   s.boardWrite 0x030 (freezeBytes s.freeze)] ++ allMirrors.flatMap s.rewriteWrites

/-- The start refresh (R173). -/
def State.startRefresh (s : State) : State :=
  let s1 := { s with rewrites := s.rewrites.stepAll }
  s1.place s1.refreshWrites

/-! ### Building notes (R174) -/

/-- A note that names no entry and no edition. -/
def State.plainNote (s : State) (kind : NoteKind) (site : Option (Fin 16)) (value : Int) : Note :=
  { kind := kind, site := site, code := none, entry := none, time := s.clock, value := value }

/-- A note about an entry: its site, handle, key and version, and its edition's code now. -/
def State.entryNote (s : State) (kind : NoteKind) (i : Fin 4096) (d : Delivery) (value : Int) : Note :=
  { kind := kind, site := some d.site, code := some (s.edition d.edition).code,
    entry := some { index := i, generation := (s.slot i).generation, edition := d.edition,
                    sect := d.sect, page := d.page, version := d.version },
    time := s.clock, value := value }

/-- A note about a target: site and edition code. -/
def State.targetNote (s : State) (kind : NoteKind) (i : Fin 16) (e : Fin 32) (value : Int) : Note :=
  { kind := kind, site := some i, code := some (s.edition e).code, entry := none, time := s.clock,
    value := value }

end Sys2Proof.Machine
end

