-- ==== Sys2Proof/Machine/Engines.lean ====
section
/-! DEFINITION. The site protocol engine's outstanding list, its timers and the planner's measurement
that the list governs (sections 7.4 to 7.6, R101, R104). -/

namespace Sys2Proof.Machine

/-- The handle a message names, if it names one. -/
def Message.handle : Message → Option Handle
  | .offer h => some h
  | .segment h _ _ => some h
  | .withdraw h => some h
  | .target _ _ _ _ => none

def Message.isSegment : Message → Bool
  | .segment _ _ _ => true
  | _ => false

/-- The outstanding list holds a SEGMENT. -/
def Engine.hasSegment (e : Engine) : Bool := e.outstanding.any fun o => o.message.isSegment

/-- An OFFER for a handle is outstanding (R143). -/
def Engine.hasOffer (e : Engine) (h : Handle) : Bool :=
  e.outstanding.any fun o => decide (o.message = .offer h)

/-- A resend is due: some message carries a resend mark, or the PROBE does (R146, R147). -/
def Engine.resendDue (e : Engine) : Bool := e.outstanding.any Outstanding.resend || e.probeResend

/-- Discard a site's measurement without an update of K (R104). -/
def State.discardMeasurement (s : State) (i : Fin 16) : State :=
  s.setPlanner i { s.planner i with measurement := none }

/-- Discard the measurement when no SEGMENT is left outstanding (R104, R144). -/
def State.discardIfNoSegment (s : State) (i : Fin 16) : State :=
  if (s.engine i).hasSegment then s else s.discardMeasurement i

/-- Remove the messages that satisfy `gone`, without an answer (R144): no releasing answer, but an empty
list with no PROBE outstanding stops the receipt timer and clears the retry count. -/
def State.dropMessages (s : State) (i : Fin 16) (gone : Message → Bool) : State :=
  let e := s.engine i
  let kept := e.outstanding.filter fun o => !gone o.message
  if kept.length = e.outstanding.length then s
  else
    let e1 := { e with outstanding := kept }
    let e2 :=
      if kept.isEmpty && !e.probeOutstanding then { e1 with receiptTimer := none, retry := 0 } else e1
    (s.setEngine i e2).discardIfNoSegment i

/-- What a releasing answer does to the engine (R142). -/
def Engine.afterRelease (e : Engine) (timeout : Nat) : Engine :=
  { e with retry := 0, probeOutstanding := false, probeResend := false,
           receiptTimer := if e.outstanding.isEmpty then none else some timeout }

/-- Release the messages that an answer answers; with at least one, it is a releasing answer (R142). -/
def State.releaseMessages (s : State) (i : Fin 16) (answered : Message → Bool) : State :=
  let e := s.engine i
  let kept := e.outstanding.filter fun o => !answered o.message
  if kept.length = e.outstanding.length then s
  else
    (s.setEngine i ({ e with outstanding := kept }.afterRelease (s.site i).receiptTimeout)).discardIfNoSegment i

/-- Put a windowed message at the tail of the list (R141). The receipt timer starts when the list was
empty and no PROBE was outstanding (R145). -/
def State.joinList (s : State) (i : Fin 16) (m : Message) : State :=
  let e := s.engine i
  s.setEngine i
    { e with
      outstanding := e.outstanding ++ [{ message := m, resend := false }],
      receiptTimer :=
        if e.outstanding.isEmpty && !e.probeOutstanding then some (s.site i).receiptTimeout
        else e.receiptTimer }

/-- Take everything that names a handle off the list and off the WITHDRAW queue (R53, R144). -/
def State.forgetHandle (s : State) (i : Fin 16) (h : Handle) : State :=
  let s1 := s.dropMessages i fun m => decide (m.handle = some h)
  s1.setEngine i
    { s1.engine i with withdrawQueue := (s1.engine i).withdrawQueue.filter fun x => decide (x ≠ h) }

/-- Queue a WITHDRAW at the tail of the site's queue (R154). -/
def State.queueWithdraw (s : State) (i : Fin 16) (h : Handle) : State :=
  s.setEngine i { s.engine i with withdrawQueue := (s.engine i).withdrawQueue ++ [h] }

/-- A frame is handed to a lane's transmitter (R167). For an ONLINE site the probe timer restarts and the
PROBE due mark is cleared (R148). -/
def State.handFrame (s : State) (i : Fin 16) (l : Fin 4) (f : Frame) : State :=
  let s1 := s.setLane l { s.lane l with transmitter := .sending f }
  let e := s1.engine i
  if e.state = .online then
    s1.setEngine i { e with probeTimer := some (s.site i).probeInterval, probeDue := false }
  else s1

/-- Every message of the list gets a resend mark, and an outstanding PROBE its own (R146). -/
def Engine.markAll (e : Engine) : Engine :=
  { e with outstanding := e.outstanding.map fun o => { o with resend := true },
           probeResend := e.probeOutstanding }

/-- Clear the resend mark of the first marked message that is `m` (R147). -/
def clearMark (m : Message) : List Outstanding → List Outstanding
  | [] => []
  | o :: rest =>
    if o.message = m ∧ o.resend = true then { o with resend := false } :: rest else o :: clearMark m rest

end Sys2Proof.Machine
end

