-- ==== Sys2Proof/Machine/Table.lean ====
section
/-! DEFINITION. The delivery table (chapter 4): writing, taking and freeing entries with the site order
that follows them (R86, R87), and what the table does with each report of a site protocol engine. -/

namespace Sys2Proof.Machine

/-! ### The site order (R86, R87) -/

/-- The first entry stands before the second in a site order: deadline, then REPLATE, then release
number, then index (R87). -/
def orderBefore (a b : Fin 4096 × Delivery) : Bool :=
  if a.2.deadline ≠ b.2.deadline then decide (a.2.deadline < b.2.deadline)
  else if a.2.replate ≠ b.2.replate then a.2.replate
  else if a.2.releaseNumber ≠ b.2.releaseNumber then decide (a.2.releaseNumber < b.2.releaseNumber)
  else decide (a.1 < b.1)

/-- Put an entry in its sorted place of a list of indices, whose entries `look` gives. -/
def insertOrder (look : Fin 4096 → Option Delivery) (i : Fin 4096) (d : Delivery) :
    List (Fin 4096) → List (Fin 4096)
  | [] => [i]
  | j :: rest =>
    match look j with
    | none => j :: insertOrder look i d rest
    | some e => if orderBefore (i, d) (j, e) then i :: j :: rest else j :: insertOrder look i d rest

/-- A site order after an entry has been written: taken out, and put back in its place if its state
belongs to the order (R86). -/
def reorder (look : Fin 4096 → Option Delivery) (i : Fin 4096) (d : Delivery)
    (order : List (Fin 4096)) : List (Fin 4096) :=
  if d.state.inOrder then insertOrder look i d (order.erase i) else order.erase i

/-! ### Entries (R51 to R53) -/

/-- The entries whose finish and slack have become absent since the last replan, after an entry has become
what `new` gives, or has been freed (R86, R89, R92). -/
def absentAfter (i : Fin 4096) (old new : Option Delivery) (l : List (Fin 4096)) : List (Fin 4096) :=
  if (old.bind Delivery.prediction).isSome && (new.bind Delivery.prediction).isNone then l ++ [i] else l

/-- Write an entry in use: the delivery as its flags settle (R89, R98), its place in the site order, and
its mirror rewrite (R56, R182). An entry whose fields do not change is left alone. -/
def State.writeEntry (s : State) (i : Fin 4096) (d : Delivery) : State :=
  let d1 := d.settled
  if s.entry i = some d1 then s
  else
    let p := s.planner d1.site
    ((s.setSlot i { s.slot i with use := some d1 }).setPlanner d1.site
      { p with order := reorder s.entry i d1 p.order,
               absent := absentAfter i (s.entry i) (some d1) p.absent }).hand (.mirror (.delivery i))

/-- Take a free entry for a new delivery: step the generation and fill the fields (R52). -/
def State.takeEntry (s : State) (i : Fin 4096) (d : Delivery) : State :=
  (s.setSlot i { generation := (s.slot i).generation + 1, use := none }).writeEntry i d

/-- Free an entry: it keeps its generation only, leaves the site order, where a finish and slack it had have
become absent (R89, R92), and nothing that names its handle stays at the engine (R52, R53). -/
def State.freeEntry (s : State) (i : Fin 4096) : State :=
  match s.entry i with
  | none => s
  | some d =>
    let h := s.handleOf i
    let p := s.planner d.site
    (((s.setSlot i { s.slot i with use := none }).setPlanner d.site
      { p with order := p.order.erase i, absent := absentAfter i (some d) none p.absent }).hand
        (.mirror (.delivery i))).forgetHandle d.site h

/-- An entry superseded or recalled after it was offered: CURRENT and HELD cleared, state WITHDRAWING,
and a WITHDRAW queued (R55, R70, R80). -/
def State.withdrawEntry (s : State) (i : Fin 4096) (d : Delivery) : State :=
  (s.writeEntry i { d with current := false, held := false, state := .withdrawing }).queueWithdraw
    d.site (s.handleOf i)

/-- The page key of a delivery. -/
def Delivery.key (d : Delivery) : Fin 32 × Nat × Nat := (d.edition, d.sect, d.page)

/-- The site's CURRENT entry of a key (R55, R70). -/
def State.currentOf (s : State) (i : Fin 16) (key : Fin 32 × Nat × Nat) :
    Option (Fin 4096 × Delivery) :=
  s.inUse.find? fun p => p.2.current && decide (p.2.site = i) && decide (p.2.key = key)

/-- The sites that have an entry in a list, ascending: DESIGN CHOICE (log 5). -/
def sitesOf (ps : List (Fin 4096 × Delivery)) : List (Fin 16) :=
  allSites.filter fun i => ps.any fun p => decide (p.2.site = i)

/-! ### Reports (section 4.3) -/

/-- A delivery becomes DELIVERED with its note. -/
def State.deliver (s : State) (i : Fin 4096) (d : Delivery) : State :=
  let d1 := { d with state := .delivered }
  (s.writeEntry i d1).hand (.note (s.entryNote .delivered i d1 d.size))

/-- The receipt that answers an OFFER (R59). -/
def State.answerReceipt (s : State) (i : Fin 4096) (d : Delivery) (count : Nat) : State :=
  let a := min d.acked count
  match d.state with
  | .offered =>
    let d1 := { d with acked := a, sent := a, state := .sending }
    if a = d.size then s.deliver i d1 else s.writeEntry i d1
  | .withdrawing => s.writeEntry i { d with acked := a, sent := a }
  | _ => s

/-- The new acked that an ordinary receipt gives: the smaller of the count and sent, if above acked
(R60). -/
def Delivery.raisedTo (d : Delivery) (count : Nat) : Nat := max d.acked (min count d.sent)

/-- An ordinary receipt (R60). -/
def State.ordinaryReceipt (s : State) (i : Fin 4096) (d : Delivery) (count : Nat) : State :=
  let a := d.raisedTo count
  if a = d.acked then s
  else
    let d1 := { d with acked := a }
    if d.state = .sending ∧ a = d.size then s.deliver i d1 else s.writeEntry i d1

/-- A REFUSE (R61). -/
def State.refuseEntry (s : State) (i : Fin 4096) (d : Delivery) (reason : Reason) : State :=
  match d.state with
  | .offered =>
    let d1 := { d with state := .refused, reason := some reason }
    (s.writeEntry i d1).hand (.note (s.entryNote .refused i d1 reason.code))
  | _ => s

/-- A PLATED report (R62, R76). -/
def State.plateEntry (s : State) (i : Fin 4096) (d : Delivery) : State :=
  match d.state with
  | .delivered =>
    let d1 := { d with state := .plated, platedTime := some s.clock }
    (s.writeEntry i d1).hand
      (.note (s.entryNote .plated i d1 (clampSlack ((d.deadline : Int) - s.clock))))
  | .withdrawing => s.writeEntry i { d with platedTime := some (d.platedTime.getD s.clock) }
  | _ => s

/-- A TOO_LATE for a WITHDRAWING entry (R75): PLATED with full counts, then REPLATE on the site's CURRENT
entry of the key with REPLATE_NEEDED, or RECALL_TOO_LATE when there is none. -/
def State.tooLateEntry (s : State) (i : Fin 4096) (d : Delivery) : State :=
  let time := d.platedTime.getD s.clock
  let d1 := { d with state := .plated, sent := d.size, acked := d.size, platedTime := some time }
  let s1 := (s.writeEntry i d1).forgetHandle d.site (s.handleOf i)
  match s1.currentOf d.site d.key with
  | some (j, c) =>
    let c1 := { c with replate := true }
    (s1.writeEntry j c1).hand (.note (s1.entryNote .replateNeeded j c1 d.version))
  | none => s1.hand (.note (s1.entryNote .recallTooLate i d1 time))

/-- A data read failure or window failure for a SENDING entry (R63). -/
def State.failEntry (s : State) (i : Fin 4096) (d : Delivery) (reason : Reason) : State :=
  match d.state with
  | .sending =>
    let d1 := { d with state := .failed, reason := some reason }
    (s.writeEntry i d1).hand (.note (s.entryNote .failed i d1 reason.code))
  | _ => s

/-- One entry under the loss of its site: OFFERED and SENDING return to WAITING with sent set to acked
(R64). -/
def State.loseEntry (s : State) (i : Fin 4096) : State :=
  match s.entry i with
  | some d =>
    match d.state with
    | .offered | .sending => s.writeEntry i { d with state := .waiting, sent := d.acked }
    | _ => s
  | none => s

end Sys2Proof.Machine
end

