-- ==== Sys2Proof/Machine/Planners.lean ====
section
/-! DEFINITION. The site planners (chapter 5): the replan, prediction, risk and lateness, the measurement,
the correction factor and the drift counter. -/

namespace Sys2Proof.Machine

/-! ### Arithmetic of prediction (R93 to R96) -/

/-- E = ceil(N × K / 4,096) (R93). -/
def effectivePace (n k : Nat) : Nat := ceilDiv (n * k) 4096

/-- d = ceil(r × E / 1,048,576), r = size − acked (R94). -/
def durationOf (e : Nat) (d : Delivery) : Nat := ceilDiv ((d.size - d.acked) * e) Config.mib

/-- S = deadline − F, clamped (R96). -/
def slackOf (deadline finish : Nat) : Int := clampSlack ((deadline : Int) - finish)

/-- An entry of the prediction set with its finish, slack and AT_RISK judged (R92 step 2, R97). -/
def predictEntry (m : Nat) (finish : Nat) (d : Delivery) : Delivery :=
  let slack := slackOf d.deadline finish
  { d with prediction := some { finish := finish, slack := slack },
           atRisk := atRiskAfter m slack d.atRisk }

/-- The prediction along a site order: each entry's finish is the one before it plus its duration,
saturating; HELD entries are skipped (R95). `last` is the finish before, at first now. -/
def predictAlong (look : Fin 4096 → Option Delivery) (e m : Nat) :
    Nat → List (Fin 4096) → List (Fin 4096 × Delivery)
  | _, [] => []
  | last, i :: rest =>
    match look i with
    | none => predictAlong look e m last rest
    | some d =>
      if d.held then predictAlong look e m last rest
      else
        let finish := satAdd last (durationOf e d)
        (i, predictEntry m finish d) :: predictAlong look e m finish rest

/-- The smallest slack of a prediction, absent when it is empty (R92 step 4). -/
def leastSlack : List (Fin 4096 × Delivery) → Option Int
  | [] => none
  | p :: rest =>
    match p.2.prediction, leastSlack rest with
    | some x, some y => some (min x.slack y)
    | some x, none => some x.slack
    | none, r => r

/-! ### The replan (R92) -/

/-- Store a delivery without moving it: a replan changes no place in the order (R92). -/
def State.storeEntry (s : State) (p : Fin 4096 × Delivery) : State :=
  s.setSlot p.1 { s.slot p.1 with use := some p.2 }

/-- The entries of a site that a replan judges for LATE: the order, then REFUSED and FAILED entries in
ascending index (R92 step 3, R99). -/
def State.judged (s : State) (i : Fin 16) : List (Fin 4096) :=
  (s.planner i).order ++
    (s.inUse.filter fun p => decide (p.2.site = i) &&
      decide (p.2.state = .refused ∨ p.2.state = .failed)).map Prod.fst

/-- The entries of a list that become LATE now, with LATE set (R99). -/
def State.newlyLate (s : State) (l : List (Fin 4096)) : List (Fin 4096 × Delivery) :=
  l.filterMap fun i =>
    match s.entry i with
    | some d => if d.becomesLate s.clock then some (i, { d with late := true }) else none
    | none => none

/-- The notes of a replan: AT_RISK for each entry whose flag went from clear to set, carrying its slack
(R97). -/
def State.riskNotes (before : State) (ps : List (Fin 4096 × Delivery)) : List Handing :=
  ps.filterMap fun p =>
    match before.entry p.1, p.2.prediction with
    | some old, some x =>
      if !old.atRisk && p.2.atRisk then some (.note (before.entryNote .atRisk p.1 p.2 x.slack)) else none
    | _, _ => none

/-- LATE notes, carrying deadline − now (R99). -/
def State.lateNotes (s : State) (ps : List (Fin 4096 × Delivery)) : List Handing :=
  ps.map fun p => .note (s.entryNote .late p.1 p.2 (clampSlack ((p.2.deadline : Int) - s.clock)))

/-- The rewrites of a replan: every judged entry whose fields it changed, and every entry whose finish and
slack have become absent since the last replan; those it does not judge go last (R92 step 5; log 31). -/
def changedMirrors (before after : State) (judged absent : List (Fin 4096)) : List Handing :=
  ((judged.filter fun i => decide (before.entry i ≠ after.entry i) || decide (i ∈ absent)) ++
    absent.filter fun i => decide (i ∉ judged)).map fun i => .mirror (.delivery i)

/-- A replan of a site (R92): predict, judge AT_RISK and LATE, hand the rewrites, the AT_RISK notes, the
LATE notes and the site mirror, and restart the replan timer (R91). -/
def State.replanNow (s : State) (i : Fin 16) : State :=
  let r := s.site i
  let p := s.planner i
  let e := effectivePace r.pace p.factor
  let predicted := predictAlong s.entry e r.margin s.clock p.order
  let s1 := predicted.foldl State.storeEntry s
  let judged := s1.judged i
  let late := s1.newlyLate judged
  let s2 := late.foldl State.storeEntry s1
  let s3 := s2.setPlanner i
    { p with lastPace := e, minSlack := leastSlack predicted, timer := some Config.replanPeriod,
             absent := [] }
  s3.handAll (changedMirrors s s2 judged p.absent ++ s.riskNotes predicted ++ s.lateNotes late ++
    [.mirror (.site i)])

/-- A replan is taken only by the planner of an enabled site (R85). -/
def State.replan (s : State) (i : Fin 16) : State :=
  if (s.site i).enabled then s.replanNow i else s

/-- One replan of each site of a list, in order (R90). Every owner gives its sites in ascending index, for
which the rules name no order: DESIGN CHOICE (log 5). -/
def State.replanAll (s : State) (is : List (Fin 16)) : State := is.foldl State.replan s

/-! ### The correction factor and the drift counter (R101 to R107) -/

/-- A measurement begins (R101). -/
def State.beginMeasurement (s : State) (i : Fin 16) : State :=
  s.setPlanner i { s.planner i with measurement := some { start := s.clock, bytes := 0 } }

/-- K after a measurement of Δb bytes in Δt ms closes, at nominal pace N (R103). -/
def factorAfter (n k elapsed bytes : Nat) : Nat :=
  let t := max 1 elapsed
  let m := t * Config.mib / bytes
  let k1 := m * 4096 / n
  (clampInt 2048 16383 ((k : Int) + ((k1 : Int) - k).tdiv 8)).toNat

/-- The drift counter's step (R106). -/
def driftStep (old new : Nat) (drift : Int) : Int :=
  if new > old + 64 then drift + 1 else if new + 64 < old then drift - 1 else drift

/-- A measurement closes: K, the drift counter and its compare, and the measurement goes on from now
(R103, R106, R107). -/
def State.closeMeasurement (s : State) (i : Fin 16) (x : Measurement) : State :=
  let r := s.site i
  let p := s.planner i
  let k := factorAfter r.pace p.factor (s.clock - x.start) x.bytes
  let drift := driftStep p.factor k p.drift
  let p1 := { p with factor := k, measurement := some { start := s.clock, bytes := 0 } }
  if (r.driftCompare : Int) ≤ drift then
    (s.setPlanner i { p1 with drift := 0 }).hand (.note (s.plainNote .pathSlow (some i) k))
  else if drift ≤ -(r.driftCompare : Int) then
    (s.setPlanner i { p1 with drift := 0 }).hand (.note (s.plainNote .pathFast (some i) k))
  else s.setPlanner i { p1 with drift := drift }

/-- An advance of acked is added to a measurement in progress, which closes at 65,536 (R102). -/
def State.measure (s : State) (i : Fin 16) (advance : Nat) : State :=
  match (s.planner i).measurement with
  | none => s
  | some x =>
    let x1 := { x with bytes := x.bytes + advance }
    if Config.measurementBytes ≤ x1.bytes then s.closeMeasurement i x1
    else s.setPlanner i { s.planner i with measurement := some x1 }

end Sys2Proof.Machine
end

