-- ==== Sys2Proof/Machine/Targets.lean ====
section
/-! DEFINITION. The colour target unit's records (chapter 6). -/

namespace Sys2Proof.Machine

/-- What the target mirror shows of a record but for its deadline (R126). -/
def TargetRecord.visible (t : TargetRecord) :
    TargetState × Option Values × Option Values × Bool × Nat :=
  (t.state, t.lastSent, t.pending, t.clamped, t.number)

/-- Write a target record, handing its mirror rewrite when its state, values, target number or clamped
flag changes (R120, R126, R185). -/
def State.setTarget (s : State) (e : Fin 32) (i : Fin 16) (t : TargetRecord) : State :=
  let s1 := { s with targets := putAt s.targets (pairIndex e i) t }
  if t.visible = (s.target e i).visible then s1 else s1.hand (.mirror (.target (pairIndex e i)))

/-! ### Deadlines and the choice of a record (R117, R120) -/

/-- The earliest of two optional times. -/
def earlier : Option Nat → Nat → Option Nat
  | none, y => some y
  | some x, y => some (min x y)

/-- The target deadline of a pair: the earliest deadline among the CURRENT entries of the edition in the
site order, or now (R120). -/
def State.targetDeadline (s : State) (e : Fin 32) (i : Fin 16) : Nat :=
  ((s.planner i).order.foldl
    (fun acc j =>
      match s.entry j with
      | some d => if d.current ∧ d.edition = e then earlier acc d.deadline else acc
      | none => acc) none).getD s.clock

/-- The record the unit offers for a site: of its PENDING records the one whose target deadline is
earliest, the lower edition index at equal deadlines (R117). -/
def State.pendingTarget (s : State) (i : Fin 16) : Option (Fin 32) :=
  (allEditions.foldl
    (fun (best : Option (Fin 32 × Nat)) e =>
      if (s.target e i).state = .pending then
        let t := s.targetDeadline e i
        match best with
        | none => some (e, t)
        | some b => if t < b.2 then some (e, t) else best
      else best) none).map Prod.fst

/-- The deadlines the unit computes when a site is asked for a TARGET are stored in the records that are
PENDING (R117, R120). -/
def State.storeTargetDeadlines (s : State) (i : Fin 16) : State :=
  allEditions.foldl
    (fun st e =>
      if (st.target e i).state = .pending then
        st.setTarget e i { st.target e i with deadline := some (s.targetDeadline e i) }
      else st) s

/-! ### Sending, confirming, returning (R118, R121 to R123) -/

/-- The number after a target number: 65,535 is followed by 1 (R118). -/
def nextTargetNumber (n : Nat) : Nat := if n ≥ 65535 then 1 else n + 1

/-- A record whose TARGET message is handed to the lane (R118). -/
def TargetRecord.afterSend (t : TargetRecord) (v : Values) : TargetRecord :=
  { t with number := nextTargetNumber t.number, lastSent := some v, pending := none, state := .sent }

/-- A SENT record under the loss rule or a disabling (R123). -/
def TargetRecord.returned (t : TargetRecord) : TargetRecord :=
  match t.state with
  | .sent => { t with state := .pending, pending := some (t.pending.getD (t.lastSent.getD (Vector.replicate 8 0))) }
  | _ => t

/-- Every SENT record of a site returns to PENDING (R123). Their rewrites go in ascending edition index:
DESIGN CHOICE (log 5). -/
def State.returnTargets (s : State) (i : Fin 16) : State :=
  allEditions.foldl (fun st e => st.setTarget e i (st.target e i).returned) s

/-- The defined edition with a code (R121). -/
def State.editionOfCode (s : State) (code : Nat) : Option (Fin 32) :=
  allEditions.find? fun e => (s.edition e).defined && decide ((s.edition e).code = code)

/-- A TARGET_OK from a site (R121, R122). The note goes before the rewrite, as R122 names them: DESIGN
CHOICE (log 5). -/
def State.confirmTarget (s : State) (i : Fin 16) (code number : Nat) : State :=
  match s.editionOfCode code with
  | none => s
  | some e =>
    let t := s.target e i
    if t.state = .sent ∧ t.number = number then
      (s.hand (.note (s.targetNote .targetConfirmed i e number))).setTarget e i
        { t with state := if t.pending.isSome then .pending else .confirmed }
    else s

/-! ### Computing a target (R113 to R115) -/

/-- One site value before clamping: master plus offset. -/
def rawValue (r : SiteRecord) (masters : Values) (q : Fin 8) : Int :=
  ((getAt masters q : Nat) : Int) + getAt r.offsets q

/-- One site value, clamped to the site's limits (R113). -/
def siteValue (r : SiteRecord) (masters : Values) (q : Fin 8) : Nat :=
  (clampInt ((getAt r.limits q).1 : Nat) ((getAt r.limits q).2 : Nat) (rawValue r masters q)).toNat

/-- The eight site values (R113). -/
def siteValues (r : SiteRecord) (masters : Values) : Values := Vector.ofFn (siteValue r masters)

/-- The number of quantities that their clamp changed (R113). -/
def clampedCount (r : SiteRecord) (masters : Values) : Nat :=
  ((List.finRange 8).filter fun q =>
    decide ((siteValue r masters q : Int) ≠ rawValue r masters q)).length

/-- The hold test: the values are significant (R114). -/
def significant (t : TargetRecord) (h : Nat) (v : Values) : Bool :=
  match t.lastSent with
  | none => true
  | some old => (List.finRange 8).any fun q =>
      decide (2 ^ h ≤ (((getAt v q : Nat) : Int) - ((getAt old q : Nat) : Int)).natAbs)

/-- A record that takes significant values (R115). -/
def TargetRecord.accept (t : TargetRecord) (v : Values) (clamped : Bool) : TargetRecord :=
  { t with pending := some v, clamped := clamped, state := if t.state = .sent then .sent else .pending }

/-- One subscriber's share of a TARGET ticket: its TARGET_CLAMPED note, and its record if the values are
significant. Answers whether they were (R113 to R116). A site's note goes before its record's rewrite, and
both before the next site's: DESIGN CHOICE (log 5). -/
def State.computeTarget (s : State) (e : Fin 32) (masters : Values) (i : Fin 16) : State × Bool :=
  let r := s.site i
  let v := siteValues r masters
  let n := clampedCount r masters
  let s1 := if n = 0 then s else s.hand (.note (s.targetNote .targetClamped i e n))
  let t := s.target e i
  if significant t r.hold v then (s1.setTarget e i (t.accept v (decide (n ≠ 0))), true) else (s1, false)

/-- Some value the site may yet be sent lies outside these limits (R36). -/
def State.targetsOutside (s : State) (i : Fin 16) (limits : Vector (Nat × Nat) 8) : Bool :=
  let outside (v : Values) : Bool :=
    (List.finRange 8).any fun q =>
      decide (getAt v q < (getAt limits q).1 ∨ (getAt limits q).2 < getAt v q)
  allEditions.any fun e =>
    let t := s.target e i
    (t.pending.any outside) || (decide (t.state = .sent) && t.lastSent.any outside)

end Sys2Proof.Machine
end

