-- ==== Sys2Proof/Machine/Sites.lean ====
section
/-! DEFINITION. What takes a site from one site state to another (section 7.3): the loss rule, LOST, a
move, ONLINE, enabling and disabling. -/

namespace Sys2Proof.Machine

/-- The messages of a list that are WITHDRAWs, as handles, oldest first. -/
def withdrawsOf (l : List Outstanding) : List Handle :=
  l.filterMap fun o => match o.message with | .withdraw h => some h | _ => none

/-- The engine's share of the loss rule (R138 steps 1 to 3). -/
def Engine.afterLoss (e : Engine) : Engine :=
  { e with withdrawQueue := withdrawsOf e.outstanding ++ e.withdrawQueue, outstanding := [],
           probeOutstanding := false, probeResend := false, probeDue := false, receiptTimer := none,
           retry := 0 }

/-- The loss rule (R138). The entries returned to WAITING are rewritten in the sequence of the site order:
DESIGN CHOICE (log 5). -/
def State.lossRule (s : State) (i : Fin 16) : State :=
  let s1 := s.setEngine i (s.engine i).afterLoss
  let s2 := (s1.planner i).order.foldl State.loseEntry s1
  ((s2.returnTargets i).discardMeasurement i).replan i

/-- Why a site is lost, as SITE_LOST carries it (section 11.5). -/
def lostNoAnswer : Int := 1
def lostLane : Int := 2

/-- The engine enters LOST from JOINING or ONLINE (R137). That the site mirror's last handing follows the
note: DESIGN CHOICE (log 5). -/
def State.siteLost (s : State) (i : Fin 16) (cause : Int) : State :=
  let s1 := s.lossRule i
  let s2 := s1.setEngine i
    { s1.engine i with state := .lost, receiptTimer := none, helloDue := true,
                       probeTimer := some (s1.site i).probeInterval }
  (s2.hand (.note (s2.plainNote .siteLost (some i) cause))).hand (.mirror (.site i))

/-- The site's record has changed lane or station: the loss rule, then JOINING (R139). -/
def State.siteMove (s : State) (i : Fin 16) : State :=
  let s1 := s.lossRule i
  (s1.setEngine i
    { s1.engine i with state := .joining, probeTimer := none, helloCount := 0, helloDue := true }).hand
      (.mirror (.site i))

/-- The lane of a site is DOWN and the site is not moved (R140). -/
def State.laneLoss (s : State) (i : Fin 16) : State :=
  match (s.engine i).state with
  | .joining | .online => s.siteLost i lostLane
  | _ => s

/-- A WELCOME brings the site ONLINE (R136). That the note goes before the site mirror: DESIGN CHOICE
(log 5). -/
def State.siteOnline (s : State) (i : Fin 16) : State :=
  let s1 := s.setEngine i
    { s.engine i with state := .online, helloCount := 0, retry := 0, helloDue := false,
                      receiptTimer := none, probeTimer := some (s.site i).probeInterval }
  (s1.hand (.note (s1.plainNote .siteOnline (some i) (s.site i).lane.val))).hand (.mirror (.site i))

/-- The site has been enabled: JOINING, planner reset, first replan (R38, R85, R134). -/
def State.siteEnabled (s : State) (i : Fin 16) : State :=
  let s1 := s.setEngine i
    { s.engine i with state := .joining, helloCount := 0, helloDue := true }
  let s2 := s1.setPlanner i { s1.planner i with factor := 4096, drift := 0, measurement := none }
  (s2.replanNow i).hand (.mirror (.site i))

/-- The engine in UNSET (R39, R134). -/
def Engine.afterDisable (e : Engine) : Engine :=
  { Engine.reset with lastReceipt := e.lastReceipt }

/-- The site has been disabled: UNSET, targets returned, one last replan and the replan timer stopped
(R39, R85, R134). -/
def State.siteDisabled (s : State) (i : Fin 16) : State :=
  let s1 := (s.setEngine i (s.engine i).afterDisable).returnTargets i
  let s2 := (s1.discardMeasurement i).replanNow i
  (s2.setPlanner i { s2.planner i with timer := none, expired := false }).hand (.mirror (.site i))

end Sys2Proof.Machine
end

