-- ==== Sys2Proof/Machine/Lanes.lean ====
section
/-! DEFINITION. The lanes (sections 8.1 and 8.2): lane mirror rewrites, the changes to DOWN and UP, and
failover. -/

namespace Sys2Proof.Machine

/-- A lane's values have changed: the time of the change, and its mirror rewrite (R171). -/
def State.laneChanged (s : State) (l : Fin 4) : State :=
  (s.setLane l { s.lane l with changed := s.clock }).hand (.mirror (.lane l))

/-- One site of a lane that goes DOWN: moved to the standby lane, with LANE_FAILOVER, or handed the loss
(R163 step 5, R164). -/
def State.judgeSite (s : State) (l : Fin 4) (standby : Option (Fin 4)) (i : Fin 16) : State :=
  match standby with
  | some b =>
    let s1 := (s.setSite i { s.site i with lane := b }).siteMove i
    s1.hand (.note (s1.plainNote .laneFailover (some i) (l.val + 256 * b.val)))
  | none => s.laneLoss i

/-- The lane that takes the sites of a lane going DOWN, if the three conditions of R164 hold. -/
def State.failoverTarget (s : State) (l : Fin 4) : Option (Fin 4) :=
  match (s.lane l).standby with
  | some b => if (s.lane l).failover ∧ (s.lane b).state = .up then some b else none
  | none => none

/-- An UP lane goes DOWN (R163): cut the frame off, withdraw the grant, LANE_DOWN, judge every site
carried, rewrite the mirrors. -/
def State.laneDown (s : State) (l : Fin 4) (cause : DownCause) : State :=
  let s1 := (s.setLane l
    { s.lane l with state := .down, cause := some cause, quietTimer := none,
                    transmitter := .free }).withdrawGrants l
  let s2 := s1.hand (.note (s1.plainNote .laneDown none (l.val + 256 * cause.code)))
  let standby := s2.failoverTarget l
  let sites := s2.carried l
  let s3 := (sites.foldl (fun st i => st.judgeSite l standby i) s2).laneChanged l
  match standby with
  | some b => if sites.isEmpty then s3 else s3.laneChanged b
  | none => s3

/-- A DOWN lane comes UP on a good frame (R165). The DOWN cause is kept. -/
def State.laneUp (s : State) (l : Fin 4) : State :=
  let s1 := s.setLane l { s.lane l with state := .up, quietTimer := (s.lane l).quietSetting }
  (s1.hand (.note (s1.plainNote .laneUp none l.val))).laneChanged l

/-- What a good frame does to its lane before it is routed (R160): an UP lane restarts its quiet timer, a
DOWN lane comes UP. -/
def State.hearFrame (s : State) (l : Fin 4) : State :=
  match (s.lane l).state with
  | .up => s.setLane l { s.lane l with quietTimer := (s.lane l).quietSetting }
  | .down => s.laneUp l
  | .off => s

/-- The site a frame is for: run tag, addressee, and the enabled site with that station on that lane
(R130 steps 3 to 5). -/
def State.routeFrame (s : State) (l : Fin 4) (f : InFrame) : Option (Fin 16) :=
  if f.runTag = s.runTag ∧ f.addressee = 0 then
    (s.carried l).find? fun i => decide ((s.site i).station = f.sender.toNat)
  else none

end Sys2Proof.Machine
end

