-- ==== Sys2Proof/Machine/Waiting.lean ====
section
/-! DEFINITION. The blocks of Figure 0-1 as they take events, and the waiting of R4 for room in the
posted-write queue. -/

namespace Sys2Proof.Machine

/-! ### Blocks (log 4) -/

/-- The blocks that take events (Figure 0-1; log 4). -/
inductive Block where
  | boardInterface | ticketReader | faultUnit | writer
  | engine (i : Fin 16) | planner (i : Fin 16) | lane (l : Fin 4)
  deriving DecidableEq, Repr

/-- The block of a segment read: the engine that asked for it. -/
def State.blockOfRead (s : State) (tag : Nat) : Block :=
  match (s.reads.find? fun r => decide (r.tag = tag)).map Read.kind with
  | some (.segment g) => .engine g.site
  | _ => .boardInterface

/-- The block that takes a command (log 4). -/
def State.blockOf (s : State) : Instr → Block
  | .powerOnReset _ => .boardInterface
  | .softReset _ => .boardInterface
  | .runStart _ => .boardInterface
  | .runStop _ => .boardInterface
  | .faultHaltWrite _ => .boardInterface
  | .boardLoWrite _ => .boardInterface
  | .boardHiWrite _ => .boardInterface
  | .nudge _ => .boardInterface
  | .ignoredRegisterWrite _ _ => .boardInterface
  | .runTagReadDone _ _ => .boardInterface
  | .pollIntervalReadDone _ _ => .ticketReader
  | .chainEntryReadDone _ _ => .ticketReader
  | .ticketReadDone _ _ => .ticketReader
  | .linkRereadDone _ _ => .ticketReader
  | .faultPresentReadDone _ _ => .faultUnit
  | .freezeReadDone _ _ => .writer
  | .roomReadDone _ _ => .writer
  | .headerReadError _ => .faultUnit
  | .chainPollTimerExpiry => .ticketReader
  | .window => .ticketReader
  | .fence => .ticketReader
  | .fenceDrained => .ticketReader
  | .site => .ticketReader
  | .edition => .ticketReader
  | .lane => .ticketReader
  | .clock => .ticketReader
  | .release => .ticketReader
  | .hold => .ticketReader
  | .resume => .ticketReader
  | .recall => .ticketReader
  | .retry => .ticketReader
  | .purge => .ticketReader
  | .target => .ticketReader
  | .badKind => .ticketReader
  | .postedWriteFailed _ => .boardInterface
  | .postedWriteQueueRoom => .boardInterface
  | .segmentReadDone tag _ => s.blockOfRead tag
  | .segmentReadError tag => s.blockOfRead tag
  | .receiptTimerExpiry i => .engine i
  | .probeTimerExpiry i => .engine i
  | .replanTimerExpiry i => .planner i
  | .quietTimerExpiry l => .lane l
  | .carrierLost l => .lane l
  | .carrierGained l => .lane l
  | .transmissionComplete l => .lane l
  | .badFrame l _ => .lane l
  | .welcome l _ => .lane l
  | .receipt l _ => .lane l
  | .refuse l _ => .lane l
  | .plated l _ => .lane l
  | .withdrawn l _ => .lane l
  | .tooLate l _ => .lane l
  | .targetOk l _ => .lane l
  | .echo l _ => .lane l
  | .productionClockTick => .boardInterface

/-- The frame that a command brings to a lane. -/
def frameOf : Instr → Option (Fin 4 × InFrame)
  | .welcome l f => some (l, f)
  | .receipt l f => some (l, f)
  | .refuse l f => some (l, f)
  | .plated l f => some (l, f)
  | .withdrawn l f => some (l, f)
  | .tooLate l f => some (l, f)
  | .targetOk l f => some (l, f)
  | .echo l f => some (l, f)
  | .badFrame l bytes => if frameGood bytes then some (l, InFrame.ofBytes bytes) else none
  | _ => none

/-- The engine that a command's frame is handed to (R130 step 5). -/
def State.engineOf (s : State) (c : Instr) : List Block :=
  match frameOf c with
  | some (l, f) => (s.routeFrame l f).toList.map .engine
  | none => []

/-! ### The waiting for room (R4) -/

/-- The blocks whose work waits with a waiting event. -/
def State.holds (s : State) : Waiter → List Block
  | .command c => [s.blockOf c]
  | .grant l => [.lane l]
  | .siteRequest i _ _ => [.engine i, .planner i]
  | .paceRequest i => [.planner i]
  | .headCheck => [.ticketReader]

/-- The blocks whose work an event is: those that wait with it, and the engine its frame goes to. -/
def State.needs (s : State) (w : Waiter) : List Block :=
  s.holds w ++
    match w with
    | .command c => s.engineOf c
    | _ => []

/-- A block has an event waiting. -/
def State.blockWaits (s : State) (b : Block) : Bool := s.waiting.any fun w => decide (b ∈ s.holds w)

/-- A block whose work an event is has one waiting already, so its other work waits with it (R4). -/
def State.mustWait (s : State) (w : Waiter) : Bool := (s.needs w).any s.blockWaits

/-- An event begins to wait for the queue (R4). -/
def State.wait (s : State) (w : Waiter) : State := { s with waiting := s.waiting ++ [w] }

/-- An event is not taken while the queue is full if it would place writes (R4). -/
def State.refusedByQueue (s after : State) : Bool :=
  s.queueFull && decide (s.queue.length < after.queue.length)

/-- An event is taken with its effect, or waits for the posted-write queue (R4; log 4). -/
def State.takeOrWait (s : State) (w : Waiter) (effect : State → State) : State :=
  if s.mustWait w then s.wait w
  else if s.refusedByQueue (effect s) then s.wait w
  else effect s

end Sys2Proof.Machine
end

