-- ==== Sys2Proof/Machine/Arbiter.lean ====
section
/-! DEFINITION. What an engine can supply, the supplying of it, and the lane arbiter (sections 7.7 and
8.3). -/

namespace Sys2Proof.Machine

/-- What an engine reports that it can supply (R149, R150). -/
inductive Supply where
  | resend (m : Message)
  | resendProbe
  | withdraw (h : Handle)
  | target (e : Fin 32)
  | offer (i : Fin 4096)
  | segment (i : Fin 4096)
  | hello
  | probe
  deriving DecidableEq, Repr

/-- The first entry of a site order that satisfies a test (R88). -/
def State.firstInOrder (s : State) (i : Fin 16) (p : Delivery → Bool) : Option (Fin 4096) :=
  (s.planner i).order.find? fun j => (s.entry j).any p

/-- WAITING without HELD, for an OFFER (R150 step 3). -/
def Delivery.offerable (d : Delivery) : Bool := decide (d.state = .waiting) && !d.held

/-- SENDING without HELD and with bytes left, for a SEGMENT (R150 step 4). -/
def Delivery.sendable (d : Delivery) : Bool :=
  decide (d.state = .sending) && !d.held && decide (d.sent < d.size)

/-- An ONLINE engine's next windowed message (R150). -/
def State.nextMessage (s : State) (i : Fin 16) : Option Supply :=
  match (s.engine i).withdrawQueue with
  | h :: _ => some (.withdraw h)
  | [] =>
    match s.pendingTarget i with
    | some e => some (.target e)
    | none =>
      match s.firstInOrder i Delivery.offerable with
      | some j => some (.offer j)
      | none => (s.firstInOrder i Delivery.sendable).map .segment

/-- The engine is asked for a new windowed message: ONLINE, no resend due, below its window (R149). -/
def State.asksWindowed (s : State) (i : Fin 16) : Bool :=
  decide ((s.engine i).state = .online) && !(s.engine i).resendDue &&
    decide ((s.engine i).outstanding.length < (s.site i).window)

/-- The oldest message with a resend mark, or the marked PROBE after them (R147). -/
def Engine.nextResend (e : Engine) : Option Supply :=
  match e.outstanding.find? Outstanding.resend with
  | some o => some (.resend o.message)
  | none => if e.probeResend then some .resendProbe else none

/-- What an engine can supply (R149). -/
def State.report (s : State) (i : Fin 16) : Option Supply :=
  let e := s.engine i
  let probe := if e.probeDue then some Supply.probe else none
  match e.state with
  | .unset => none
  | .joining | .lost => if e.helloDue then some .hello else none
  | .online =>
    if e.resendDue then e.nextResend
    else if s.asksWindowed i then (s.nextMessage i).orElse fun _ => probe
    else probe

/-! ### Class and measure (R169, R170) -/

def Supply.class : Supply → Nat
  | .resend _ | .resendProbe => 1
  | .withdraw _ => 2
  | .target _ | .offer _ | .segment _ => 3
  | .hello | .probe => 4

/-- The measure of a class 3 message; none ranks after every measure (R170). -/
def State.measureOf (s : State) (i : Fin 16) : Supply → Option Int
  | .target e => some (clampSlack ((s.targetDeadline e i : Int) - s.clock))
  | .offer j | .segment j =>
    match s.entry j with
    | some d => d.prediction.map Prediction.slack
    | none => none
  | _ => none

/-- A site's bid: class, measure, and what it would supply. -/
structure Bid where
  site : Fin 16
  supply : Supply
  measure : Option Int
  deriving DecidableEq, Repr

/-- The first bid is granted before the second, which comes from a site of higher index (R169, R170). -/
def Bid.beats (a b : Bid) : Bool :=
  if a.supply.class ≠ b.supply.class then decide (a.supply.class < b.supply.class)
  else
    match a.measure, b.measure with
    | some x, some y => decide (x ≤ y)
    | none, some _ => false
    | _, none => true

/-- The bids of sites, in the order given. -/
def State.bids (s : State) (sites : List (Fin 16)) : List Bid :=
  sites.filterMap fun i =>
    (s.report i).map fun x => { site := i, supply := x, measure := s.measureOf i x }

/-- The bid that is granted; the list is in ascending site index. -/
def bestBid : List Bid → Option Bid
  | [] => none
  | a :: rest =>
    match bestBid rest with
    | none => some a
    | some b => if a.beats b then some a else some b

/-! ### Supplying (R147, R151, R152) -/

/-- What became of a grant. -/
inductive Granted where
  | used      -- the transmitter sends, or waits for a read
  | nothing   -- the engine found nothing to supply: the arbiter chooses among the other sites (R168)
  | returned  -- a refused SEGMENT: the lane arbitrates again (R22, R152)
  deriving DecidableEq, Repr

/-- A window or data read failure of a SENDING entry: FAILED, and its planner replans (R63, R90). -/
def State.failAndReplan (s : State) (i : Fin 4096) (d : Delivery) (reason : Reason) : State :=
  if d.state = .sending then (s.failEntry i d reason).replan d.site else s

/-- Supply a SEGMENT, new or resent: check the entry's whole data range, then issue the read with the
transmitter GRANTED (R22, R152). A refused resent segment leaves the list (R144). -/
def State.supplySegment (s : State) (i : Fin 16) (l : Fin 4) (h : Handle) (d : Delivery)
    (offset length : Nat) (resend : Bool) : State × Granted :=
  if s.dataAdmitted d.dataAddress d.size then
    ((s.issueRead
        (.segment { site := i, lane := l, index := h.index, generation := h.generation,
                    offset := offset, length := length, resend := resend, holds := true })
        (d.dataAddress + offset)).setLane l { s.lane l with transmitter := .granted i },
     .used)
  else
    let s1 := if resend then s.dropMessages i fun m => decide (m = .segment h offset length) else s
    (s1.failAndReplan h.index d .window, .returned)

/-- Resend a marked message, or remove one whose purpose has gone (R147). -/
def State.supplyResend (s : State) (i : Fin 16) (l : Fin 4) (m : Message) : State × Granted :=
  let e := s.engine i
  let s1 := s.setEngine i { e with outstanding := clearMark m e.outstanding }
  let removed := (s1.dropMessages i fun x => decide (x = m), Granted.nothing)
  match m with
  | .offer h =>
    match s1.named h with
    | some d =>
      if d.state = .offered then (s1.handFrame i l (s1.offerFrame i h d), .used) else removed
    | none => removed
  | .segment h offset length =>
    match s1.named h with
    | some d =>
      if d.state = .sending then s1.supplySegment i l h d offset length true else removed
    | none => removed
  | .target _ code number v => (s1.handFrame i l (s1.targetFrame i code number v), .used)
  | .withdraw h =>
    match s1.named h with
    | some d =>
      if d.state = .withdrawing then (s1.handFrame i l (s1.withdrawFrame i h), .used) else removed
    | none => removed

/-- Supply the WITHDRAW at the front of the queue (R151). -/
def State.supplyWithdraw (s : State) (i : Fin 16) (l : Fin 4) (h : Handle) : State :=
  let e := s.engine i
  ((s.setEngine i { e with withdrawQueue := e.withdrawQueue.tail }).joinList i (.withdraw h)).handFrame i l
    (s.withdrawFrame i h)

/-- Supply the TARGET of a PENDING record (R118, R151). -/
def State.supplyTarget (s : State) (i : Fin 16) (l : Fin 4) (e : Fin 32) : State × Granted :=
  let t := s.target e i
  match t.pending with
  | none => (s, .nothing)
  | some v =>
    let t1 := t.afterSend v
    let code := (s.edition e).code
    (((s.setTarget e i t1).joinList i (.target e code t1.number v)).handFrame i l
      (s.targetFrame i code t1.number v), .used)

/-- Supply the OFFER of a WAITING entry: its stale SEGMENTs leave the list, the OFFER joins it, the entry
becomes OFFERED (R58, R144, R151). -/
def State.supplyOffer (s : State) (i : Fin 16) (l : Fin 4) (j : Fin 4096) (d : Delivery) : State :=
  let h := s.handleOf j
  let s1 := s.dropMessages i fun m => m.isSegment && decide (m.handle = some h)
  ((s1.joinList i (.offer h)).handFrame i l (s1.offerFrame i h d)).writeEntry j { d with state := .offered }

/-- Supply a HELLO: clear the mark, and in JOINING step the count and start the receipt timer (R135,
R137). -/
def State.supplyHello (s : State) (i : Fin 16) (l : Fin 4) : State :=
  let e := s.engine i
  let e1 :=
    if e.state = .joining then
      { e with helloDue := false, helloCount := e.helloCount + 1,
               receiptTimer := some (s.site i).receiptTimeout }
    else { e with helloDue := false }
  (s.setEngine i e1).handFrame i l (s.helloFrame i)

/-- Supply a PROBE: outstanding from now, the receipt timer starting if nothing else is (R145, R148). -/
def State.supplyProbe (s : State) (i : Fin 16) (l : Fin 4) : State :=
  let e := s.engine i
  (s.setEngine i
    { e with probeOutstanding := true,
             receiptTimer :=
               if e.outstanding.isEmpty && !e.probeOutstanding then some (s.site i).receiptTimeout
               else e.receiptTimer }).handFrame i l (s.probeFrame i)

/-- The engine supplies what it reported (R149). -/
def State.supply (s : State) (i : Fin 16) (l : Fin 4) : Supply → State × Granted
  | .resend m => s.supplyResend i l m
  | .resendProbe =>
    ((s.setEngine i { s.engine i with probeResend := false }).handFrame i l (s.probeFrame i), .used)
  | .withdraw h => (s.supplyWithdraw i l h, .used)
  | .target e => s.supplyTarget i l e
  | .offer j =>
    match s.entry j with
    | some d => (s.supplyOffer i l j d, .used)
    | none => (s, .nothing)
  | .segment j =>
    match s.entry j with
    | some d =>
      s.supplySegment i l (s.handleOf j) d d.sent (min Config.segmentMax (d.size - d.sent)) false
    | none => (s, .nothing)
  | .hello => (s.supplyHello i l, .used)
  | .probe => (s.supplyProbe i l, .used)

/-! ### The arbiter (R168) -/

/-- A lane's transmitter can be granted: UP and FREE, and the part not HALTED (R168, R171). -/
def State.canGrant (s : State) (l : Fin 4) : Bool :=
  decide (s.part ≠ .halted) && decide ((s.lane l).state = .up) &&
    decide ((s.lane l).transmitter = .free)

/-- One grant: the sites asked compute their target deadlines (R117, R120), the chosen one supplies, and
the event's writes enter the queue. -/
def State.grant (s : State) (l : Fin 4) (asked : List (Fin 16)) (b : Bid) : State × Granted :=
  let asking := asked.filter fun i => s.asksWindowed i && (s.engine i).withdrawQueue.isEmpty
  let s1 := asking.foldl State.storeTargetDeadlines s
  let g := s1.supply b.site l b.supply
  (g.1.flush, g.2)

/-- The arbiter of a lane grants while it can (R168). `without` are the sites that found nothing to supply
since the last other grant. Each round that uses no grant takes a message or a SENDING entry away, so the
rounds are bounded. A site whose engine waits for the queue is not asked, and a grant whose writes find the
queue full begins to wait (R4; log 4). -/
def arbitrate : Nat → Fin 4 → List (Fin 16) → State → State
  | 0, _, _, s => s
  | n + 1, l, without, s =>
    if s.canGrant l then
      let asked := (s.carried l).filter fun i => decide (i ∉ without) && !s.blockWaits (.engine i)
      match bestBid (s.bids asked) with
      | none => if without = [] then s else arbitrate n l [] s
      | some b =>
        let g := s.grant l asked b
        if s.refusedByQueue g.1 then s.wait (.grant l)
        else
          match g.2 with
          | .used => g.1
          | .nothing => arbitrate n l (b.site :: without) g.1
          | .returned => arbitrate n l [] g.1
    else s

/-- A bound on the rounds of an arbiter: twice the messages outstanding and entries in order. -/
def State.rounds (s : State) : Nat :=
  2 * (allSites.foldl
    (fun n i => n + (s.engine i).outstanding.length + (s.planner i).order.length) 0) + 4

/-- A lane's arbiter is asked for a grant, unless an event of the lane waits for the queue (R4, R168). -/
def State.arbitrateLane (s : State) (l : Fin 4) : State :=
  if s.blockWaits (.lane l) then s else arbitrate s.rounds l [] s

/-- After an event every lane that can grants, in ascending lane index (R168; log 5). -/
def State.arbitrateAll (s : State) : State := allLanes.foldl State.arbitrateLane s

/-- The part is HALTED: every timer stops and the held notes are lost (R29, R186). -/
def State.haltCleanup (s : State) : State :=
  if s.part = .halted then
    { s with
      heldNotes := [], pollTimer := none,
      planners := s.planners.map fun p => { p with timer := none },
      engines := s.engines.map fun e => { e with receiptTimer := none, probeTimer := none },
      lanes := s.lanes.map fun x => { x with quietTimer := none } }
  else s

/-- The end of a command's own event: its writes, the grants it brings about, and what HALTED stops. -/
def State.finish (s : State) : State := (s.flush.arbitrateAll).haltCleanup

end Sys2Proof.Machine
end

