-- ==== Sys2Proof/Machine/Reader.lean ====
section
/-! DEFINITION. The fault unit and the ticket reader: recording a fault, starting, stopping, following
links, checking the head of the buffer, retiring (sections 1.3 to 1.6, 2.4, 2.5). -/

namespace Sys2Proof.Machine

/-! ### Stopping and faults (R23, R24, R28) -/

/-- Entering STALLED or HALTED stops the ticket reader: the buffer is emptied, the re-read request
cleared and the chain reads in flight abandoned (R24). -/
def State.stopReader (s : State) : State :=
  { s.abandonChainReads with
    buffer := [], execution := none, rereadRequest := false, reader := .stopped, stopping := false }

/-- The sequence number expected next, absent until a ticket has retired (R12, Table 2-1). -/
def State.expectedSequence (s : State) : Option Nat :=
  s.lastRetired.map fun r => (r.sequence + 1) % Config.word32

/-- The state a first fault enters: FAULT_HALT 0 gives STALLED, 1 gives HALTED (R23). -/
def State.faultEntry (s : State) : PartState := if s.faultHalt then .halted else .stalled

/-- The chain poll timer after a first fault: it runs in STALLED, starting where a part that was IDLE or
stopping had stopped it (R11, R26; log 29). -/
def State.faultPoll (s : State) : Timer :=
  if s.faultEntry = .stalled ∧ s.pollTimer = none ∧ s.pollInterval ≠ 0 then some s.pollInterval
  else s.pollTimer

/-- A first fault is recorded (R23): fault present, stall origin, the CHAIN_FAULT note, the fault block,
the fault-present byte last, and the state entered. DEDUCED: the same with the base zero (log 34). -/
def State.recordFault (s : State) (kind : FaultKind) (address found : Nat) : State :=
  let block := faultBytes kind s.faultEntry s.expectedSequence address found s.clock
  { (s.handAll [.note (s.plainNote .chainFault none kind.code), .write 0x040 block,
                .write 0x060 [1]]).stopReader with
    faultPresent := true,
    stallOrigin := some (if s.part = .idle then .idle else .running),
    part := s.faultEntry, pollTimer := s.faultPoll }

/-- A fault while fault present is set halts the part and writes nothing (R28). -/
def State.secondFault (s : State) : State := { s.stopReader with part := .halted }

/-- A chain fault or board read fault is raised (R23, R28). -/
def State.raiseFault (s : State) (kind : FaultKind) (address found : Nat) : State :=
  if s.faultPresent then s.secondFault else s.recordFault kind address found

/-! ### The head of the buffer (R12) -/

/-- The ticket reader runs: RUNNING and not stopped by a write of RUN (R6, R9). -/
def State.readerRuns (s : State) : Bool := decide (s.part = .running) && !s.stopping

/-- The check of a head: placeholder, posting byte, sequence number, then execution (R12). -/
def State.checkItem (s : State) (item : BufferItem) : State :=
  match item with
  | .placeholder kind address => s.raiseFault kind address 0
  | .ticket t =>
    if t.posting ≠ Config.posted then s.raiseFault .notPosted t.address t.sequence
    else if s.expectedSequence.any fun x => decide (x ≠ t.sequence) then
      s.raiseFault .sequence t.address t.sequence
    else { s with execution := some .handed }

/-- The head is checked when the ticket ahead of it has retired, or at once (R12). -/
def State.checkHead (s : State) : State :=
  if s.readerRuns && s.execution.isNone then
    match s.buffer with
    | [] => s
    | item :: _ => s.checkItem item
  else s

/-! ### Following links (R9 to R11, R21) -/

/-- Leave a placeholder at the tail. The reader follows no link past it (R10). -/
def State.addPlaceholder (s : State) (kind : FaultKind) (address : Nat) : State :=
  { s with buffer := s.buffer ++ [BufferItem.placeholder kind address], reader := .blocked,
           rereadRequest := false }.checkHead

/-- A non-zero link is checked and read (R10). -/
def State.takeLink (s : State) (link : Nat) : State :=
  if link % Config.ticketSize = 0 ∧ s.ticketAdmitted link = true then
    { s.issueRead .ticket link with reader := .fetching }
  else s.addPlaceholder .linkWindow link

/-- A link that is known: zero leaves the reader waiting (R11), another is read when there is room. -/
def State.followLink (s : State) (link : Nat) : State :=
  if link = 0 then { s with reader := .waiting }
  else if Config.bufferLimit ≤ s.buffer.length then { s with reader := .full }
  else s.takeLink link

/-- The reader looks for the next link: the newest ticket's in the buffer, the last retired ticket's, or
the chain entry address (R9). -/
def State.follow (s : State) : State :=
  if s.reader = .stopped then s
  else
    match s.buffer.getLast? with
    | some (.ticket t) => s.followLink t.link
    | some (.placeholder _ _) => { s with reader := .blocked }
    | none =>
      match s.lastRetired with
      | some r => s.followLink r.link
      | none => { s.issueHeaderRead .chainEntry 0x000 with reader := .fetching }

/-- Re-read the link field of the ticket at an address, if that ticket is still admitted; if not, a
LINK_WINDOW placeholder carries its address (R11, R20, R21). -/
def State.rereadTicketLink (s : State) (address : Nat) : State :=
  if s.ticketAdmitted address then { s.issueRead .link address with reader := .rereading }
  else s.addPlaceholder .linkWindow address

/-- Re-read the link the reader waits on: the newest buffered ticket's, the last retired ticket's, or the
chain entry address (R11). -/
def State.reread (s : State) : State :=
  match s.buffer.getLast? with
  | some (.ticket t) => s.rereadTicketLink t.address
  | some (.placeholder _ _) => s
  | none =>
    match s.lastRetired with
    | some r => s.rereadTicketLink r.address
    | none => { s.issueHeaderRead .entryReread 0x000 with reader := .rereading }

/-- The link of the newest ticket, replaced by what a re-read found (R11). -/
def updateLink (link : Nat) : List BufferItem → List BufferItem
  | [] => []
  | [.ticket t] => [.ticket { t with link := link }]
  | x :: rest => x :: updateLink link rest

/-- A re-read found a non-zero link: the reader stops waiting and continues (R11). -/
def State.foundLink (s : State) (link : Nat) : State :=
  let s1 := { s with rereadRequest := false }
  match s1.buffer with
  | [] =>
    match s1.lastRetired with
    | some r => { s1 with lastRetired := some { r with link := link } }.followLink link
    | none => s1.followLink link
  | b => { s1 with buffer := updateLink link b }.followLink link

/-- The first read of the chain entry address is in flight (R9). -/
def State.readsChainEntry (s : State) : Bool := s.reads.any fun r => r.live && decide (r.kind = .chainEntry)

/-- The link the reader waits on is to be read again: at once, or held while a read of that link is in flight
(R8, R11), be it a re-read, which may be that of R9, or the first read of the chain entry address: DEDUCED
(logs 16 and 29). -/
def State.askReread (s : State) : State :=
  if s.readerRuns then
    match s.reader with
    | .waiting => s.reread
    | .rereading => { s with rereadRequest := true }
    | .fetching => if s.readsChainEntry then { s with rereadRequest := true } else s
    | _ => s
  else s

/-- A read of the link found zero: a held request is issued at once, otherwise the reader waits on (R8,
R11). -/
def State.foundZero (s : State) : State :=
  if s.rereadRequest then { s with rereadRequest := false }.reread else { s with reader := .waiting }

/-! ### Starting and stopping (R5, R6, R9, R27) -/

/-- The chain poll timer restarted at the interval held; an interval of zero stops it (R11). -/
def State.restartPoll (s : State) : State :=
  { s with pollTimer := if s.pollInterval = 0 then none else some s.pollInterval }

/-- The reader begins: at the chain entry address, or with a re-read of the last retired ticket's link
(R9). -/
def State.beginReader (s : State) : State :=
  match s.lastRetired with
  | some r => s.rereadTicketLink r.address
  | none => { s.issueHeaderRead .chainEntry 0x000 with reader := .fetching }

/-- The part enters RUNNING from IDLE (R5, R173). -/
def State.startPart (s : State) : State :=
  let s1 := { s.flush with part := .running, noBoard := false, stopping := false }
  let s2 := (s1.startRefresh).restartPoll
  ((s2.issueHeaderRead .runTag 0x00C).issueHeaderRead .pollInterval 0x008).beginReader

/-- RUN changes from 0 to 1 in IDLE: refused for want of a board base, or the start (R5). -/
def State.startOrRefuse (s : State) : State :=
  if s.base = 0 then { s with noBoard := true, run := false } else s.startPart

/-- RUN changes from 1 to 0 in RUNNING (R6). -/
def State.stopPart (s : State) : State :=
  let s1 := { s.abandonChainReads with
    buffer := if s.execution.isSome then s.buffer.take 1 else [], reader := .stopped,
    rereadRequest := false, pollTimer := none }
  if s.execution.isSome then { s1 with stopping := true }
  else { s1 with stopping := false, part := .idle }

/-- The part leaves STALLED (R27). -/
def State.leaveStalled (s : State) : State :=
  let s1 := { s with faultPresent := false, stallOrigin := none }
  if s.run then
    if s.stallOrigin = some .idle then { s1 with part := .idle, pollTimer := none }.startOrRefuse
    else ({ s1 with part := .running }.restartPoll).beginReader
  else { s1 with part := .idle, pollTimer := none }

/-! ### Retiring (R14, R15) -/

/-- The ticket in execution and handed to its owner. Tickets are taken only in RUNNING (R5, R26, R29). -/
def State.handedTicket (s : State) : Option Ticket :=
  if s.part = .running then
    match s.execution, s.buffer with
    | some .handed, .ticket t :: _ => some t
    | _, _ => none
  else none

/-- The ticket in execution, if its kind is this one. -/
def State.executing (s : State) (kind : Nat) : Option Ticket :=
  s.handedTicket.filter fun t => decide (t.kind = kind)

/-- The ticket in execution, if its kind is not one of Table 1-3 (R13). -/
def State.executingUnknown (s : State) : Option Ticket :=
  s.handedTicket.filter fun t => decide (t.kind ∉ ticketKinds)

/-- The writes of a retirement, in the order of Figure 1-2 (R14). -/
def State.retireWrites (s : State) (t : Ticket) (r : Result) : List Handing :=
  (if s.inTicketArea t.address then
    [.write (t.address - s.base + 0x0E) (resultBytes r),
     .write (t.address - s.base + 0x0D) (le 1 Config.done)]
   else []) ++
  [.write (0x400 + 16 * (t.sequence % 64)) (logBytes t r), .write 0x010 (le 4 t.sequence)]

/-- A ticket retires: its writes, and it leaves the buffer as the last retired ticket (R14). -/
def State.retire (s : State) (t : Ticket) (r : Result) : State :=
  { s.handAll (s.retireWrites t r) with
    buffer := s.buffer.tail, execution := none,
    lastRetired := some { address := t.address, sequence := t.sequence, link := t.link } }

/-- The head behind a retired ticket is checked, and a link that found no room is followed, while the reader
runs (R9, R12, R15). -/
def effHeadCheck (s : State) : State :=
  let s1 := s.checkHead
  (if s1.readerRuns = true ∧ s1.reader = .full then s1.follow else s1).flush

/-- After a retirement: a stopped part enters IDLE, and starts at once if RUN is 1 again (R6); otherwise
the next head is checked, which waits if it would record a fault and the queue is full (R4, R12). -/
def State.afterRetire (s : State) : State :=
  if s.stopping then
    let s1 := { s with stopping := false, part := .idle }
    if s.run then s1.startOrRefuse else s1
  else if s.refusedByQueue (effHeadCheck s) then s.wait .headCheck
  else effHeadCheck s

/-- A ticket that its owner has carried out retires with the outcome stated, then `after` takes the
owner's requests (R13, R15, R37). -/
def State.retireWith (s : State) (t : Ticket) (r : Result) (after : State → State) : State :=
  (after (s.retire t r).flush).afterRetire.finish

/-- The ticket in execution is carried out by the owner of its kind and retires (R13, R15). Nothing
happens when no such ticket is in execution (log 1). -/
def State.carryOut (s : State) (kind : Nat) (owner : Ticket → State → State × Result) : State :=
  match s.executing kind with
  | none => s
  | some t => (owner t s).1.retireWith t (owner t s).2 id

end Sys2Proof.Machine
end

