-- ==== Sys2Proof/Machine/Events.lean ====
section
/-! DEFINITION. How a command is taken, or waits for room in the posted-write queue, and the returning of
reads. -/

namespace Sys2Proof.Machine

/-! ### Reads that return -/

/-- The read in flight with a tag, if its kind is as the command says. -/
def State.findRead (s : State) (tag : Nat) (kind : ReadKind → Bool) : Option Read :=
  s.reads.find? fun r => decide (r.tag = tag) && kind r.kind

/-- A read that has returned is no longer in flight. -/
def State.removeRead (s : State) (tag : Nat) : State :=
  { s with reads := s.reads.filter fun r => decide (r.tag ≠ tag) }

/-- A read returns. One that was abandoned, or that returns in HALTED, is discarded (R6, R7, R24, R29); a
tag that no such read has changes nothing (log 1). -/
def State.onRead (s : State) (tag : Nat) (kind : ReadKind → Bool) (f : Read → State → State) : State :=
  match s.findRead tag kind with
  | none => s
  | some r =>
    if r.live = true ∧ s.part ≠ .halted then (f r (s.removeRead tag)).finish else s.removeRead tag

/-! ### Taking a command (R4) -/

/-- A command is taken with its effect, or waits for the posted-write queue (R4; log 4). -/
def State.takeEvent (s : State) (c : Instr) (effect : State → State) : State :=
  s.takeOrWait (.command c) effect

end Sys2Proof.Machine
end

