-- ==== Sys2Proof/Machine/ConfigTickets.lean ====
section
/-! DEFINITION. The ticket kinds that configure the block: WINDOW, FENCE, SITE, EDITION, LANE, CLOCK, and
an unknown kind (R13, chapters 2, 3, 5, 8). -/

namespace Sys2Proof.Machine

/-! ### WINDOW (R19) -/

def actionSet : Nat := 1
def actionClear : Nat := 2

/-- The kind a WINDOW ticket names: 1 TICKET, 2 DATA (Table 11-5). -/
def windowKindOf (code : Nat) : Option WindowKind :=
  if code = 1 then some .ticket else if code = 2 then some .data else none

/-- The entry after a SET, if its fields are in range (R19). -/
def WindowBody.setEntry (b : WindowBody) : Option Window :=
  match windowKindOf b.kind with
  | none => none
  | some k =>
    if b.base % 4096 = 0 ∧ 1 ≤ b.granules ∧ b.granules ≤ 65536 ∧
        b.base + b.granules * 4096 ≤ Config.addressTop then
      some { valid := true, kind := k, base := b.base, granules := b.granules }
    else none

/-- The entry after a WINDOW ticket, none when it is refused. CLEAR keeps the other fields. -/
def WindowBody.entryAfter (b : WindowBody) (old : Window) : Option Window :=
  if b.action = actionSet then b.setEntry
  else if b.action = actionClear then some { old with valid := false }
  else none

/-- The number of valid window entries. -/
def State.validWindows (s : State) : Nat := (s.windows.toList.filter Window.valid).length

def windowOwner (t : Ticket) (s : State) : State × Result :=
  let b := WindowBody.parse t.body
  if h : b.entry < 16 then
    let old := getAt s.windows ⟨b.entry, h⟩
    match b.entryAfter old with
    | none => (s, .refused .badField)
    | some w =>
      let s1 := { s with windows := putAt s.windows ⟨b.entry, h⟩ w }
      (s1, .ok (if old.valid then 1 else 0) s1.validWindows)
  else (s, .refused .badField)

def effWindow (s : State) : State := s.carryOut kindWindow windowOwner

/-! ### FENCE (R15, R31, R32) -/

/-- The writes placed and not yet completed. -/
def State.writesOpen (s : State) : Nat := s.issued.length + s.queue.length

/-- The outcome a FENCE states from the write-fault latch (R31, section 11.3). -/
def fenceResult (latch : Option WriteFault) : Result :=
  match latch with
  | none => .ok 0 0
  | some f => ⟨.writeFault, 0, areaCode f.offset + (if f.more then 2147483648 else 0), f.offset⟩

/-- The FENCE whose writes have all completed retires, and the latch is emptied (R31). -/
def effFenceOutcome (s : State) : State :=
  if s.part = .running then
    match s.execution, s.buffer with
    | some (.fence 0), .ticket t :: _ =>
      { s with latch := none }.retireWith t (fenceResult s.latch) id
    | _, _ => s
  else s

/-- A FENCE enters execution: it waits for every write placed and not completed, or states its outcome at
once when there is none (R31). -/
def effFence (s : State) : State :=
  match s.executing kindFence with
  | none => s
  | some _ =>
    let s1 := { s with execution := some (.fence s.writesOpen) }
    if s.writesOpen = 0 then effFenceOutcome s1 else s1

/-! ### SITE (R34 to R44) -/

/-- The record a SITE ticket carries, its clamped fields clamped (Table 3-1, R35). Quantities 0 to 3 are
densities, 4 to 7 tones. -/
def SiteBody.record (b : SiteBody) (lane : Fin 4) : SiteRecord :=
  let reach (q : Fin 8) : Int := if q.val < 4 then 500 else 100
  let top (q : Fin 8) : Nat := if q.val < 4 then 3000 else 400
  { enabled := b.enabled, lane := lane, station := b.station, pace := clampNat 1 60000 b.pace,
    window := clampNat 1 8 b.window, receiptTimeout := clampNat 100 60000 b.receiptTimeout,
    probeInterval := clampNat 1000 60000 b.probeInterval, margin := clampNat 0 20 b.margin,
    hold := clampNat 0 9 b.hold, driftCompare := clampNat 1 63 b.driftCompare,
    offsets := Vector.ofFn fun q => clampInt (-reach q) (reach q) (getAt b.offsets q),
    limits := Vector.ofFn fun q =>
      (clampNat 0 (top q) (getAt b.limits q).1, clampNat 0 (top q) (getAt b.limits q).2) }

/-- The clamped-fields mask of a SITE ticket (R35). -/
def SiteBody.mask (b : SiteBody) (r : SiteRecord) : Nat :=
  maskBit maskPace (decide (b.pace ≠ r.pace)) + maskBit maskWindow (decide (b.window ≠ r.window)) +
    maskBit maskReceiptTimeout (decide (b.receiptTimeout ≠ r.receiptTimeout)) +
    maskBit maskProbeInterval (decide (b.probeInterval ≠ r.probeInterval)) +
    maskBit maskMargin (decide (b.margin ≠ r.margin)) + maskBit maskHold (decide (b.hold ≠ r.hold)) +
    maskBit maskDriftCompare (decide (b.driftCompare ≠ r.driftCompare)) +
    maskBit maskOffsets (decide (b.offsets ≠ r.offsets)) +
    maskBit maskLimits (decide (b.limits ≠ r.limits))

/-- The station number cannot be taken by the site as the ticket leaves it (R34 steps 3 and 4). -/
def State.stationRefused (s : State) (i : Fin 16) (enabled : Bool) (station : Nat) : Bool :=
  decide (4095 < station) ||
    (enabled && (decide (station = 0) ||
      s.enabledSites.any fun j => decide (j ≠ i) && decide ((s.site j).station = station)))

/-- Some pair of limits has its minimum above its maximum (R34 step 5). -/
def SiteRecord.limitsCrossed (r : SiteRecord) : Bool :=
  r.limits.toList.any fun p => decide (p.2 < p.1)

/-- A SITE ticket is refused as busy (R36). -/
def State.siteBusy (s : State) (i : Fin 16) (r : SiteRecord) : Bool :=
  ((s.site i).enabled && !r.enabled && decide (s.siteEntryCount i ≠ 0)) ||
    s.targetsOutside i r.limits

/-- The checks of R34 on a site and lane in range, in their order. -/
def State.siteRefusal (s : State) (i : Fin 16) (r : SiteRecord) : Option Code :=
  if s.stationRefused i r.enabled r.station || r.limitsCrossed then some .badField
  else if s.siteBusy i r then some .siteBusy
  else none

/-- Two records of a site differ in lane or station number (R40). -/
def SiteRecord.placedElsewhere (old new : SiteRecord) : Bool :=
  decide (old.lane ≠ new.lane) || decide (old.station ≠ new.station)

/-- A record is replaced. A lane or station number written into the record of a site that is not enabled is
only stored, and shown in this event (R38 to R40, R183; log 28). -/
def State.replaceSite (s : State) (i : Fin 16) (new : SiteRecord) : State :=
  let old := s.site i
  if !old.enabled && !new.enabled && old.placedElsewhere new then
    (s.setSite i new).hand (.mirror (.site i))
  else s.setSite i new

def siteOwner (t : Ticket) (s : State) : State × Result :=
  let b := SiteBody.parse t.body
  if h : b.site < 16 ∧ b.lane < 4 then
    let i : Fin 16 := ⟨b.site, h.1⟩
    let r := b.record ⟨b.lane, h.2⟩
    match s.siteRefusal i r with
    | some c => (s, .refused c)
    | none =>
      let s1 := s.replaceSite i r
      (s1, ⟨.ok, b.mask r, s1.siteEntryCount i, s1.enabledSites.length⟩)
  else (s, .refused .badField)

/-- A new record asks the engine and the planner to act: it enables, disables or moves its site (R37 to
R40). -/
def SiteRecord.asksRequest (old new : SiteRecord) : Bool :=
  decide (old.enabled ≠ new.enabled) || (old.enabled && old.placedElsewhere new)

/-- A new record asks the planner for a replan: the site stays enabled and N changes (R43; log 18). -/
def SiteRecord.asksReplan (old new : SiteRecord) : Bool :=
  old.enabled && new.enabled && decide (old.pace ≠ new.pace)

/-- The site's first request: enabling, disabling, or a move (R37 to R40). -/
def State.siteRequest (s : State) (i : Fin 16) (old new : SiteRecord) : State :=
  if old.asksRequest new then
    if !new.enabled then s.siteDisabled i
    else if old.enabled then s.siteMove i
    else s.siteEnabled i
  else s

/-- A record puts its site on a lane (R156). -/
def SiteRecord.onLane (r : SiteRecord) (l : Fin 4) : Bool := r.enabled && decide (r.lane = l)

/-- The lanes whose number of sites has changed with a record rewrite their mirrors (R171), in ascending
lane index: DESIGN CHOICE (log 5). -/
def State.carriedChanged (s : State) (old new : SiteRecord) : State :=
  (allLanes.filter fun l => decide (old.onLane l ≠ new.onLane l)).foldl State.laneChanged s

/-- The site's first request as an event of its own. In HALTED no block takes one (R29, R155). That the lane
mirrors are rewritten in it, after all of the site's own rewrites: DESIGN CHOICE (logs 5 and 18). -/
def effSiteRequest (i : Fin 16) (old new : SiteRecord) (s : State) : State :=
  if s.part = .halted then s else ((s.siteRequest i old new).carriedChanged old new).flush

/-- The replan that a change of N asks for, as an event of its own (R43, R108). -/
def effPaceRequest (i : Fin 16) (s : State) : State :=
  if s.part = .halted then s else (s.replan i).flush

/-- The requests of a SITE ticket, each an event of its own that waits when the queue is full (R4, R37): the
first request, then the replan that a change of N asks for (R43). A record that asks for neither, as after a
refusal, brings none; a change of window, timers or exponents acts where it is used (R41 to R44; log 18). -/
def State.siteRequests (before : State) (i : Fin 16) (s : State) : State :=
  let old := before.site i
  let new := s.site i
  let s1 :=
    if old.asksRequest new then s.takeOrWait (.siteRequest i old new) (effSiteRequest i old new) else s
  if old.asksReplan new then s1.takeOrWait (.paceRequest i) (effPaceRequest i) else s1

def effSite (s : State) : State :=
  match s.executing kindSite with
  | none => s
  | some t =>
    let o := siteOwner t s
    o.1.retireWith t o.2 (s.siteRequests (Fin.ofNat 16 (SiteBody.parse t.body).site))

/-! ### EDITION (R47 to R50, R125) -/

/-- An edition is in use (R47). -/
def State.editionInUse (s : State) (e : Fin 32) : Bool :=
  (s.inUse.any fun p => decide (p.2.edition = e)) ||
    allSites.any fun i => decide ((s.target e i).state = .pending ∨ (s.target e i).state = .sent)

/-- The checks of R47 on an edition index in range. -/
def State.editionRefusal (s : State) (e : Fin 32) (b : EditionBody) : Option Code :=
  if b.defined && (allEditions.any fun x =>
      decide (x ≠ e) && (s.edition x).defined && decide ((s.edition x).code = b.code)) then
    some .badField
  else if s.editionInUse e && (!b.defined || decide (b.code ≠ (s.edition e).code)) then some .siteBusy
  else none

/-- The record an accepted EDITION ticket leaves (R48). -/
def EditionBody.record (b : EditionBody) : Edition :=
  if b.defined then
    { defined := true, code := b.code, subscribed := b.subscribed, plates := b.plates }
  else Edition.reset

/-- The sites whose deadlines an EDITION ticket recomputes: subscribers now whose plate time differs from
the one they had as subscribers before (R49). -/
def State.movedPlates (s before : State) (e : Fin 32) : List (Fin 16) :=
  (s.subscribers e).filter fun i =>
    !before.isSubscriber e i ||
      decide (getAt (before.edition e).plates i ≠ getAt (s.edition e).plates i)

/-- The entries whose deadline changes, each with its new deadline (R49). -/
def State.movedEntries (s : State) (e : Fin 32) (sites : List (Fin 16)) : List (Fin 4096 × Delivery) :=
  s.inUse.filterMap fun p =>
    if p.2.edition = e ∧ p.2.current = true ∧ p.2.site ∈ sites then
      match getAt (s.edition e).plates p.2.site with
      | some plate =>
        let d := { p.2 with deadline := deadlineOf plate p.2.pageOffset }
        if d.deadline = p.2.deadline then none else some (p.1, d)
      | none => none
    else none

/-- The target records of an edition that is undefined return to NONE (R48, R125). Their rewrites go in
ascending site index, before any of an entry: DESIGN CHOICE (log 5). -/
def State.clearTargets (s : State) (e : Fin 32) : State :=
  allSites.foldl (fun st i => st.setTarget e i TargetRecord.reset) s

/-- Write several deliveries, in order. -/
def State.writeEntries (s : State) (ps : List (Fin 4096 × Delivery)) : State :=
  ps.foldl (fun st p => st.writeEntry p.1 p.2) s

/-- An EDITION ticket at the edition table. The entries are rewritten in ascending index, then the sites
replan in ascending index: DESIGN CHOICE (log 5). -/
def editionOwner (t : Ticket) (s : State) : State × Result :=
  let b := EditionBody.parse t.body
  if h : b.edition < 32 then
    let e : Fin 32 := ⟨b.edition, h⟩
    match s.editionRefusal e b with
    | some c => (s, .refused c)
    | none =>
      let s1 := s.setEdition e b.record
      let s2 := if b.defined then s1 else s1.clearTargets e
      let moved := s2.movedEntries e (s2.movedPlates s e)
      let s3 := (s2.writeEntries moved).replanAll
        (sitesOf (moved.filter fun p => p.2.state.inOrder))
      (s3, .ok moved.length (s2.subscribers e).length)
  else (s, .refused .badField)

def effEdition (s : State) : State := s.carryOut kindEdition editionOwner

/-! ### LANE (R157, R158) -/

def standbyNone : Nat := 0xFF

/-- The standby lane a LANE ticket names for a lane: none when it is refused (R157). -/
def standbyOf (l : Fin 4) (code : Nat) : Option (Option (Fin 4)) :=
  if code = standbyNone then some none
  else if h : code < 4 then (if (⟨code, h⟩ : Fin 4) = l then none else some (some ⟨code, h⟩))
  else none

/-- What a lane does when its word has changed (R158). -/
def State.laneWordChanged (s : State) (l : Fin 4) (old : Lane) : State :=
  let x := s.lane l
  if !old.enable && x.enable then s.setLane l { x with state := .down, cause := none }
  else if old.enable && !x.enable then
    let s1 := if old.state = .up then s.laneDown l .disabled else s
    s1.setLane l { s1.lane l with state := .off }
  else if old.state = .up ∧ old.quietInForce ≠ x.quietInForce then
    s.setLane l { x with quietTimer := x.quietSetting }
  else s

/-- A LANE ticket at its lane. The mirror is rewritten by every ticket accepted (R158). One that changes
nothing leaves the time of the lane's last change in it: DESIGN CHOICE (log 33). -/
def laneOwner (t : Ticket) (s : State) : State × Result :=
  let b := LaneBody.parse t.body
  if h : b.lane < 4 then
    let l : Fin 4 := ⟨b.lane, h⟩
    match standbyOf l b.standby with
    | none => (s, .refused .badField)
    | some standby =>
      let old := s.lane l
      let time := clampNat 1 60 b.quietTime
      let s1 := (s.setLane l
        { old with enable := b.enable, standby := standby, failover := b.failover,
                   quietEnable := b.quietEnable, quietTime := time }).laneWordChanged l old
      let s2 := if s1.lane l = old then s1.hand (.mirror (.lane l)) else s1.laneChanged l
      (s2, ⟨.ok, maskBit maskQuietTime (decide (b.quietTime ≠ time)), (s2.lane l).state.code,
            (s2.carried l).length⟩)
  else (s, .refused .badField)

def effLane (s : State) : State := s.carryOut kindLane laneOwner

/-! ### CLOCK (R84) -/

/-- Every measurement in progress restarts at now (R84 step 3). -/
def State.restartMeasurements (s : State) : State :=
  { s with planners := s.planners.map fun p =>
      { p with measurement := p.measurement.map fun _ => { start := s.clock, bytes := 0 } } }

def clockOwner (t : Ticket) (s : State) : State × Result :=
  let s1 := { s with clock := clockBody t.body }.restartMeasurements
  (s1.replanAll s1.enabledSites, .ok s.clock s1.enabledSites.length)

def effClock (s : State) : State := s.carryOut kindClock clockOwner

/-! ### An unknown kind (R13) -/

def effBadKind (s : State) : State :=
  match s.executingUnknown with
  | none => s
  | some t => s.retireWith t (.refused .badKind) id

/-! ### Meanings -/

def execWindow (s : State) : Host.Outcome State Fault Refusal := .next (s.takeEvent .window effWindow)
def execFence (s : State) : Host.Outcome State Fault Refusal := .next (s.takeEvent .fence effFence)
def execSite (s : State) : Host.Outcome State Fault Refusal := .next (s.takeEvent .site effSite)
def execEdition (s : State) : Host.Outcome State Fault Refusal := .next (s.takeEvent .edition effEdition)
def execLane (s : State) : Host.Outcome State Fault Refusal := .next (s.takeEvent .lane effLane)
def execClock (s : State) : Host.Outcome State Fault Refusal := .next (s.takeEvent .clock effClock)
def execBadKind (s : State) : Host.Outcome State Fault Refusal := .next (s.takeEvent .badKind effBadKind)

end Sys2Proof.Machine
end

