-- ==== Sys2Proof/Machine/Frames.lean ====
section
/-! DEFINITION. The lane ports: carrier, transmission complete, and arriving frames with the eight site
messages (R130, R131, R136, R142, R143, R148, R160, R161, R167). -/

namespace Sys2Proof.Machine

/-! ### Carrier and the transmitter -/

/-- The port reports carrier lost (R161). In HALTED carrier changes are not acted on (R29, R171). -/
def effCarrierLost (l : Fin 4) (s : State) : State :=
  if s.part = .halted ∨ (s.lane l).carrier = false then s
  else
    let s1 := s.setLane l { s.lane l with carrier := false }
    (if (s.lane l).state = .up then s1.laneDown l .carrier else s1.laneChanged l).finish

/-- The port reports carrier gained: the held carrier alone changes (R161). -/
def effCarrierGained (l : Fin 4) (s : State) : State :=
  if s.part = .halted ∨ (s.lane l).carrier = true then s
  else ((s.setLane l { s.lane l with carrier := true }).laneChanged l).finish

/-- A frame has been transmitted: the transmitter becomes FREE, in HALTED too, where nothing is granted
(R167, R171). -/
def effTransmissionComplete (l : Fin 4) (s : State) : State :=
  match (s.lane l).transmitter with
  | .sending _ => (s.setLane l { s.lane l with transmitter := .free }).finish
  | _ => s

/-! ### Arriving frames -/

/-- No frame is taken: the part is HALTED (R130 step 1), the lane is OFF (R159), the port has no carrier
(R161; log 1), or the length field makes the frame one that is not good (R130 step 2, R160). -/
def State.frameShut (s : State) (l : Fin 4) (f : InFrame) : Bool :=
  decide (s.part = .halted) || decide ((s.lane l).state = .off) || !(s.lane l).carrier ||
    decide (Config.segmentMax < f.length.toNat)

/-- A good frame arrives: the lane hears it, and the engine of the site it names takes it if its length is
0 (R130, R131 step 1, R160). -/
def State.onFrame (s : State) (l : Fin 4) (f : InFrame) (act : Fin 16 → State → State) : State :=
  if s.frameShut l f then s
  else
    let s1 := s.hearFrame l
    (match s1.routeFrame l f with
      | some i => if f.length = 0 ∧ (s1.engine i).state ≠ SiteState.unset then act i s1 else s1
      | none => s1).finish

/-- A report about an entry: its handle must name an entry in use of that site (R131 step 2, R54). -/
def State.onReport (s : State) (l : Fin 4) (f : InFrame)
    (act : Fin 16 → Handle → Delivery → State → State) : State :=
  s.onFrame l f fun i s1 =>
    match inHandle f with
    | some h =>
      match s1.named h with
      | some d => if d.site = i then act i h d s1 else s1
      | none => s1
    | none => s1

/-- WELCOME is taken in JOINING and LOST (R136, Table 7-3). -/
def State.takeWelcome (i : Fin 16) (s : State) : State :=
  match (s.engine i).state with
  | .joining | .lost => s.siteOnline i
  | _ => s

/-- The messages that a RECEIPT with a count answers: the OFFER of its handle, and the SEGMENTs of its
handle that the count covers (R142). -/
def receiptAnswers (h : Handle) (count : Nat) : Message → Bool
  | .offer x => decide (x = h)
  | .segment x offset length => decide (x = h) && decide (offset + length ≤ count)
  | _ => false

/-- The table's and planner's share of a RECEIPT that is not ignored (R143 steps 1 and 3). -/
def State.receiptToTable (s : State) (i : Fin 16) (h : Handle) (d : Delivery) (count : Nat) : State :=
  if (s.engine i).hasOffer h then s.answerReceipt h.index d count
  else
    let s1 := s.ordinaryReceipt h.index d count
    if d.raisedTo count = d.acked then s1 else s1.measure i (d.raisedTo count - d.acked)

/-- The engine took a RECEIPT now (R183). -/
def State.noteReceipt (s : State) (i : Fin 16) : State :=
  s.setEngine i { s.engine i with lastReceipt := some s.clock }

/-- A RECEIPT (R143): ignored below acked with no OFFER outstanding, otherwise handed to the table, its
answers released, and the site replanned. -/
def State.takeReceipt (count : Nat) (i : Fin 16) (h : Handle) (d : Delivery) (s : State) : State :=
  if (s.engine i).hasOffer h = false ∧ count < d.acked then s
  else
    (((s.receiptToTable i h d count).releaseMessages i (receiptAnswers h count)).noteReceipt i).replan i

/-- A REFUSE releases its OFFER and is handed to the table (R61, R142, R143). -/
def State.takeRefuse (reason : Reason) (i : Fin 16) (h : Handle) (d : Delivery) (s : State) : State :=
  let s1 := s.releaseMessages i fun m => decide (m = .offer h)
  if d.state = .offered then (s1.refuseEntry h.index d reason).replan i else s1

/-- A PLATED is handed to the table and releases nothing (R62, R76, R143). -/
def State.takePlated (_i : Fin 16) (h : Handle) (d : Delivery) (s : State) : State :=
  s.plateEntry h.index d

/-- A WITHDRAWN releases its WITHDRAW and frees the WITHDRAWING entry (R74, R142, R143). -/
def State.takeWithdrawn (i : Fin 16) (h : Handle) (d : Delivery) (s : State) : State :=
  let s1 := s.releaseMessages i fun m => decide (m = .withdraw h)
  if d.state = .withdrawing then (s1.freeEntry h.index).replan i else s1

/-- The replate that a TOO_LATE marks moves in its order, so the site replans (R75, R86, R90). -/
def State.replateMoves (s : State) (i : Fin 16) (d : Delivery) : Bool :=
  (s.currentOf i d.key).any fun p => !p.2.replate && p.2.state.inOrder

/-- A TOO_LATE releases its WITHDRAW and makes the WITHDRAWING entry PLATED (R75, R142, R143). -/
def State.takeTooLate (i : Fin 16) (h : Handle) (d : Delivery) (s : State) : State :=
  let s1 := s.releaseMessages i fun m => decide (m = .withdraw h)
  if d.state = .withdrawing then
    let s2 := s1.tooLateEntry h.index d
    if s1.replateMoves i d then s2.replan i else s2
  else s1

/-- A TARGET with this edition code and number (R142). -/
def targetAnswers (code number : Nat) : Message → Bool
  | .target _ c n _ => decide (c = code) && decide (n = number)
  | _ => false

/-- A TARGET_OK releases its TARGET and is handed to the colour target unit (R121, R142, R143). -/
def State.takeTargetOk (code number : Nat) (i : Fin 16) (s : State) : State :=
  (s.releaseMessages i (targetAnswers code number)).confirmTarget i code number

/-- An ECHO in ONLINE with a PROBE outstanding is a releasing answer (R142, R148, Table 7-3). -/
def State.takeEcho (i : Fin 16) (s : State) : State :=
  let e := s.engine i
  if e.state = .online ∧ e.probeOutstanding = true then
    s.setEngine i (e.afterRelease (s.site i).receiptTimeout)
  else s

def effWelcome (l : Fin 4) (f : InFrame) (s : State) : State := s.onFrame l f State.takeWelcome
def effReceipt (l : Fin 4) (f : InFrame) (s : State) : State :=
  s.onReport l f (State.takeReceipt f.count.toNat)
def effRefuse (l : Fin 4) (f : InFrame) (s : State) : State :=
  s.onReport l f (State.takeRefuse (refuseReason f.reason))
def effPlated (l : Fin 4) (f : InFrame) (s : State) : State := s.onReport l f State.takePlated
def effWithdrawn (l : Fin 4) (f : InFrame) (s : State) : State := s.onReport l f State.takeWithdrawn
def effTooLate (l : Fin 4) (f : InFrame) (s : State) : State := s.onReport l f State.takeTooLate
def effTargetOk (l : Fin 4) (f : InFrame) (s : State) : State :=
  s.onFrame l f (State.takeTargetOk (targetOkCode f) f.index.toNat)
def effEcho (l : Fin 4) (f : InFrame) (s : State) : State := s.onFrame l f State.takeEcho

/-- The bytes of a frame that is good: the message its kind byte names. A kind that is none of the eight is
heard by the lane and discarded by the engine (R131 step 1). -/
def effGoodBytes (l : Fin 4) (bytes : List Byte) (s : State) : State :=
  let f := InFrame.ofBytes bytes
  let kind := field bytes 0x08 1
  if kind = 0x81 then effWelcome l f s
  else if kind = 0x82 then effReceipt l f s
  else if kind = 0x83 then effRefuse l f s
  else if kind = 0x84 then effPlated l f s
  else if kind = 0x85 then effWithdrawn l f s
  else if kind = 0x86 then effTooLate l f s
  else if kind = 0x87 then effTargetOk l f s
  else if kind = 0x88 then effEcho l f s
  else s.onFrame l f fun _ s1 => s1

/-- A frame arrives as bytes. One that is not good is discarded and changes nothing (R130 step 2, R160). -/
def effBadFrame (l : Fin 4) (bytes : List Byte) (s : State) : State :=
  if frameGood bytes then effGoodBytes l bytes s else s

/-! ### Meanings -/

def execCarrierLost (l : Fin 4) (s : State) : Host.Outcome State Fault Refusal :=
  .next (s.takeEvent (.carrierLost l) (effCarrierLost l))
def execCarrierGained (l : Fin 4) (s : State) : Host.Outcome State Fault Refusal :=
  .next (s.takeEvent (.carrierGained l) (effCarrierGained l))
def execTransmissionComplete (l : Fin 4) (s : State) : Host.Outcome State Fault Refusal :=
  .next (s.takeEvent (.transmissionComplete l) (effTransmissionComplete l))
def execBadFrame (l : Fin 4) (bytes : List Byte) (s : State) : Host.Outcome State Fault Refusal :=
  .next (s.takeEvent (.badFrame l bytes) (effBadFrame l bytes))
def execWelcome (l : Fin 4) (f : InFrame) (s : State) : Host.Outcome State Fault Refusal :=
  .next (s.takeEvent (.welcome l f) (effWelcome l f))
def execReceipt (l : Fin 4) (f : InFrame) (s : State) : Host.Outcome State Fault Refusal :=
  .next (s.takeEvent (.receipt l f) (effReceipt l f))
def execRefuse (l : Fin 4) (f : InFrame) (s : State) : Host.Outcome State Fault Refusal :=
  .next (s.takeEvent (.refuse l f) (effRefuse l f))
def execPlated (l : Fin 4) (f : InFrame) (s : State) : Host.Outcome State Fault Refusal :=
  .next (s.takeEvent (.plated l f) (effPlated l f))
def execWithdrawn (l : Fin 4) (f : InFrame) (s : State) : Host.Outcome State Fault Refusal :=
  .next (s.takeEvent (.withdrawn l f) (effWithdrawn l f))
def execTooLate (l : Fin 4) (f : InFrame) (s : State) : Host.Outcome State Fault Refusal :=
  .next (s.takeEvent (.tooLate l f) (effTooLate l f))
def execTargetOk (l : Fin 4) (f : InFrame) (s : State) : Host.Outcome State Fault Refusal :=
  .next (s.takeEvent (.targetOk l f) (effTargetOk l f))
def execEcho (l : Fin 4) (f : InFrame) (s : State) : Host.Outcome State Fault Refusal :=
  .next (s.takeEvent (.echo l f) (effEcho l f))

end Sys2Proof.Machine
end

