-- ==== Sys2Proof/Machine/Registers.lean ====
section
/-! DEFINITION. The registers (section 1.1): what a read of each returns, and the commands that write
them, the two resets among them. -/

namespace Sys2Proof.Machine

/-! ### Reads (R1 to R3, Table 11-1). A read changes nothing. -/

def State.readBoardLo (s : State) : Reg := s.boardLo
def State.readBoardHi (s : State) : Reg := s.boardHi

/-- CONTROL: SOFT_RESET reads as 0 (R2). That the bits Table 11-1 names nothing in, 31:3, read as 0: DESIGN
CHOICE (log 32). -/
def State.readControl (s : State) : Reg :=
  BitVec.ofNat 32 ((if s.run then 1 else 0) + (if s.faultHalt then 2 else 0))

/-- STATUS: the part state and the four flags (R3). That the bits Table 11-1 names nothing in, 3:2 and 31:8,
read as 0: DESIGN CHOICE (log 32). -/
def State.readStatus (s : State) : Reg :=
  BitVec.ofNat 32
    (s.part.code + (if s.noBoard then 16 else 0) + (if s.faultPresent then 32 else 0) +
      (if s.writeFaultPending then 64 else 0) + (if s.notesFull then 128 else 0))

def State.readNudge (_s : State) : Reg := 0
def State.readClock (s : State) : Reg := BitVec.ofNat 32 s.clock

/-! ### Resets (R7) -/

/-- Both resets leave the commands not yet taken where they are: they come from outside. An event that waits
for room in the posted-write queue is dropped, a register write among them: DESIGN CHOICE (log 4). -/
def effPowerOnReset (carriers : Vector Bool 4) (s : State) : State :=
  { State.resetWith carriers with pending := s.pending }

/-- A soft reset keeps the board base, what the host's PCIe configuration permits (log 9), the writes
issued, whose failures are not latched (R30), and the reads in flight, which are discarded when they
return. What waits for room is dropped: DESIGN CHOICE (log 4). -/
def effSoftReset (carriers : Vector Bool 4) (s : State) : State :=
  { State.resetWith carriers with
    pending := s.pending, boardLo := s.boardLo, boardHi := s.boardHi, msiPermitted := s.msiPermitted,
    issued := s.issued.map fun w => { w with stale := true },
    reads := s.reads.map fun r => { r with live := false }, nextTag := s.nextTag }

/-! ### CONTROL (R2, R5, R6) -/

/-- A CONTROL write with RUN 1. In IDLE a change from 0 starts the part (R5); elsewhere RUN is stored. -/
def effRunStart (faultHalt : Bool) (s : State) : State :=
  let s1 := { s with faultHalt := faultHalt, run := true }
  if s.run = false ∧ s.part = .idle then s1.startOrRefuse.finish else s1

/-- A CONTROL write with RUN 0. In RUNNING a change from 1 stops the ticket reader (R6). -/
def effRunStop (faultHalt : Bool) (s : State) : State :=
  let s1 := { s with faultHalt := faultHalt, run := false }
  if s.run = true ∧ s.part = .running then s1.stopPart else s1

/-- A CONTROL write that leaves RUN as it is (R2). -/
def effFaultHaltWrite (faultHalt : Bool) (s : State) : State := { s with faultHalt := faultHalt }

/-! ### The other registers (R1, R3, R8) -/

/-- BOARD_LO is replaced in IDLE, its low 19 bits zero, and kept in every other state (R1). -/
def effBoardLoWrite (value : Reg) (s : State) : State :=
  if s.part = .idle then { s with boardLo := value &&& 0xFFF80000#32 } else s

def effBoardHiWrite (value : Reg) (s : State) : State :=
  if s.part = .idle then { s with boardHi := value } else s

/-- The four header reads of a NUDGE (R8). -/
def State.nudgeReads (s : State) : State :=
  (((s.issueHeaderRead .pollInterval 0x008).issueHeaderRead (.readIndex false) 0x018).issueHeaderRead
    .freeze 0x020).issueHeaderRead .faultPresent 0x060

/-- The chain poll timer may run: STALLED, or RUNNING and not stopping (R6, R11, R26). -/
def State.pollRuns (s : State) : Bool := s.readerRuns || decide (s.part = .stalled)

/-- A write of NUDGE (R8, R11, R179). -/
def effNudge (_value : Reg) (s : State) : State :=
  let s1 := { s with interruptOutstanding := false }
  if s.part = .halted ∨ s.base = 0 then s1
  else
    let s2 := if s.pollRuns then s1.nudgeReads.restartPoll else s1.nudgeReads
    s2.askReread.finish

/-- A write of STATUS or CLOCK is ignored (R3). -/
def effIgnoredRegisterWrite (_register : ReadOnlyReg) (_value : Reg) (s : State) : State := s

/-! ### Meanings -/

def execPowerOnReset (carriers : Vector Bool 4) (s : State) : Host.Outcome State Fault Refusal :=
  .next (effPowerOnReset carriers s)

def execSoftReset (carriers : Vector Bool 4) (s : State) : Host.Outcome State Fault Refusal :=
  .next (effSoftReset carriers s)

def execRunStart (faultHalt : Bool) (s : State) : Host.Outcome State Fault Refusal :=
  .next (s.takeEvent (.runStart faultHalt) (effRunStart faultHalt))

def execRunStop (faultHalt : Bool) (s : State) : Host.Outcome State Fault Refusal :=
  .next (s.takeEvent (.runStop faultHalt) (effRunStop faultHalt))

def execFaultHaltWrite (faultHalt : Bool) (s : State) : Host.Outcome State Fault Refusal :=
  .next (s.takeEvent (.faultHaltWrite faultHalt) (effFaultHaltWrite faultHalt))

def execBoardLoWrite (value : Reg) (s : State) : Host.Outcome State Fault Refusal :=
  .next (s.takeEvent (.boardLoWrite value) (effBoardLoWrite value))

def execBoardHiWrite (value : Reg) (s : State) : Host.Outcome State Fault Refusal :=
  .next (s.takeEvent (.boardHiWrite value) (effBoardHiWrite value))

def execNudge (value : Reg) (s : State) : Host.Outcome State Fault Refusal :=
  .next (s.takeEvent (.nudge value) (effNudge value))

def execIgnoredRegisterWrite (register : ReadOnlyReg) (value : Reg) (s : State) :
    Host.Outcome State Fault Refusal :=
  .next (s.takeEvent (.ignoredRegisterWrite register value) (effIgnoredRegisterWrite register value))

end Sys2Proof.Machine
end

