-- ==== Sys2Proof/Machine/HeaderReads.lean ====
section
/-! DEFINITION. The commands by which reads of the board header and of the chain return, and the expiry
of the chain poll timer (R5, R8 to R11, R23 to R28, R176 to R178, R184). -/

namespace Sys2Proof.Machine

def ReadKind.isRunTag (k : ReadKind) : Bool := decide (k = .runTag)
def ReadKind.isPollInterval (k : ReadKind) : Bool := decide (k = .pollInterval)
def ReadKind.isChainEntry (k : ReadKind) : Bool := decide (k = .chainEntry)
def ReadKind.isTicket (k : ReadKind) : Bool := decide (k = .ticket)
def ReadKind.isReread (k : ReadKind) : Bool := decide (k = .link ∨ k = .entryReread)
def ReadKind.isFaultPresent (k : ReadKind) : Bool := decide (k = .faultPresent)
def ReadKind.isFreeze (k : ReadKind) : Bool := decide (k = .freeze)
def ReadKind.isReadIndex (k : ReadKind) : Bool := decide (k = .readIndex true ∨ k = .readIndex false)

/-- The reads of header fields (section 2.4). -/
def ReadKind.isHeader (k : ReadKind) : Bool :=
  k.isRunTag || k.isPollInterval || k.isChainEntry || decide (k = .entryReread) || k.isFaultPresent ||
    k.isFreeze || k.isReadIndex

/-! ### Header fields -/

/-- The run tag is held for the lanes and engines (R5). -/
def effRunTagReadDone (tag : Nat) (value : Reg) (s : State) : State :=
  s.onRead tag ReadKind.isRunTag fun _ s1 => { s1 with runTag := value }

/-- A poll interval arrives: at most 1,000, taken at the next restart, or starting a stopped timer (R11). -/
def State.holdPollInterval (s : State) (value : Nat) : State :=
  let v := min value Config.pollIntervalMax
  let s1 := { s with pollInterval := v }
  if s.pollRuns = true ∧ s.pollTimer = none ∧ v ≠ 0 then { s1 with pollTimer := some v } else s1

def effPollIntervalReadDone (tag : Nat) (value : Reg) (s : State) : State :=
  s.onRead tag ReadKind.isPollInterval fun _ s1 => s1.holdPollInterval value.toNat

/-- The fault-present byte is used only in STALLED, where 0 takes the part out of it (R27). -/
def effFaultPresentReadDone (tag : Nat) (value : Byte) (s : State) : State :=
  s.onRead tag ReadKind.isFaultPresent fun _ s1 =>
    if s1.part = .stalled ∧ value = 0 then s1.leaveStalled else s1

/-- The freeze copy takes the 16 bytes' requests, and the echo is placed (R184), but not with the base zero
(R173). -/
def State.takeFreeze (s : State) (bytes : List Byte) : State :=
  let f : Vector Bool 16 := Vector.ofFn fun i => decide (byteAt bytes i.val ≠ 0)
  { s with freeze := f }.writerWrite 0x030 (freezeBytes f)

def effFreezeReadDone (tag : Nat) (bytes : List Byte) (s : State) : State :=
  s.onRead tag ReadKind.isFreeze fun _ s1 => s1.takeFreeze bytes

/-- The note read index returns to the writer, from its room read or from a NUDGE (R176 to R178). -/
def effRoomReadDone (tag : Nat) (value : Reg) (s : State) : State :=
  s.onRead tag ReadKind.isReadIndex fun r s1 =>
    s1.takeReadIndex value.toNat (decide (r.kind = .readIndex true))

/-- The notes held are lost after a failed room read (R176). A header write is made only while the part is
not HALTED (R29, log 19) and the base is not zero (R173, log 34). -/
def State.loseHeld (s : State) : State :=
  let s1 := { s with heldNotes := [] }
  if s.part = .halted then { s1 with notesFull := true } else s1.setNotesFull

/-- A header read returns a bus error: a board read fault (R25). After a room read the held notes are lost
and NOTES_FULL is set (R176). -/
def State.headerFault (s : State) (r : Read) : State :=
  if r.kind = .readIndex true then
    ({ s with roomReadInFlight := false }.raiseFault .boardRead r.address 0).flush.loseHeld
  else s.raiseFault .boardRead r.address 0

def effHeaderReadError (tag : Nat) (s : State) : State :=
  s.onRead tag ReadKind.isHeader fun r s1 => s1.headerFault r

/-! ### Tickets and links -/

/-- A read of the chain returns. While the reader does not run it is discarded (R6, R24). -/
def State.onChainRead (s : State) (tag : Nat) (kind : ReadKind → Bool) (f : Read → State → State) :
    State :=
  s.onRead tag kind fun r s1 => if s1.readerRuns then f r s1 else s1

/-- The chain entry address is a link to follow (R9). A request held during its read is dropped by a link
that is not zero, and issued by zero, as R8 gives: DEDUCED (log 16). -/
def State.takeChainEntry (s : State) (link : Nat) : State :=
  if link = 0 then s.foundZero else { s with rereadRequest := false }.followLink link

def effChainEntryReadDone (tag : Nat) (value : BitVec 64) (s : State) : State :=
  s.onChainRead tag ReadKind.isChainEntry fun _ s1 => s1.takeChainEntry value.toNat

/-- A ticket joins the tail of the buffer (R10). -/
def State.addTicket (s : State) (t : Ticket) : State :=
  { s with buffer := s.buffer ++ [BufferItem.ticket t] }.checkHead.follow

/-- A ticket read returns: the ticket, or a TICKET_READ placeholder, joins the buffer (R10). -/
def effTicketReadDone (tag : Nat) (data : Option (List Byte)) (s : State) : State :=
  s.onChainRead tag ReadKind.isTicket fun r s1 =>
    match data with
    | some b => s1.addTicket (Ticket.ofBytes r.address b)
    | none => s1.addPlaceholder .ticketRead r.address

/-- A link re-read returns (R8, R11). A bus error on the chain entry address is a board read fault (R11);
on a ticket's link field it leaves a TICKET_READ placeholder: DEDUCED (log 6). -/
def State.takeReread (s : State) (r : Read) (data : Option (BitVec 64)) : State :=
  match data with
  | some v => if v.toNat = 0 then s.foundZero else s.foundLink v.toNat
  | none =>
    if r.kind = .link then s.addPlaceholder .ticketRead r.address
    else s.raiseFault .boardRead r.address 0

def effLinkRereadDone (tag : Nat) (data : Option (BitVec 64)) (s : State) : State :=
  s.onChainRead tag ReadKind.isReread fun r s1 => s1.takeReread r data

/-- The chain poll timer expires: restart it, read the poll interval and the freeze bytes, and re-read the
link if the reader waits, holding the request while a re-read is in flight (R8, R11, R26; log 29). That a
STALLED part with the base zero makes both reads all the same, R184 before R186: DESIGN CHOICE (log 34). -/
def effChainPollTimerExpiry (s : State) : State :=
  if s.pollTimer = some 0 ∧ s.pollRuns = true then
    ((s.restartPoll.issueHeaderRead .pollInterval 0x008).issueHeaderRead .freeze 0x020).askReread.finish
  else s

/-! ### Meanings -/

def execRunTagReadDone (tag : Nat) (value : Reg) (s : State) : Host.Outcome State Fault Refusal :=
  .next (s.takeEvent (.runTagReadDone tag value) (effRunTagReadDone tag value))

def execPollIntervalReadDone (tag : Nat) (value : Reg) (s : State) : Host.Outcome State Fault Refusal :=
  .next (s.takeEvent (.pollIntervalReadDone tag value) (effPollIntervalReadDone tag value))

def execChainEntryReadDone (tag : Nat) (value : BitVec 64) (s : State) :
    Host.Outcome State Fault Refusal :=
  .next (s.takeEvent (.chainEntryReadDone tag value) (effChainEntryReadDone tag value))

def execTicketReadDone (tag : Nat) (data : Option (List Byte)) (s : State) :
    Host.Outcome State Fault Refusal :=
  .next (s.takeEvent (.ticketReadDone tag data) (effTicketReadDone tag data))

def execLinkRereadDone (tag : Nat) (data : Option (BitVec 64)) (s : State) :
    Host.Outcome State Fault Refusal :=
  .next (s.takeEvent (.linkRereadDone tag data) (effLinkRereadDone tag data))

def execFaultPresentReadDone (tag : Nat) (value : Byte) (s : State) : Host.Outcome State Fault Refusal :=
  .next (s.takeEvent (.faultPresentReadDone tag value) (effFaultPresentReadDone tag value))

def execFreezeReadDone (tag : Nat) (bytes : List Byte) (s : State) : Host.Outcome State Fault Refusal :=
  .next (s.takeEvent (.freezeReadDone tag bytes) (effFreezeReadDone tag bytes))

def execRoomReadDone (tag : Nat) (value : Reg) (s : State) : Host.Outcome State Fault Refusal :=
  .next (s.takeEvent (.roomReadDone tag value) (effRoomReadDone tag value))

def execHeaderReadError (tag : Nat) (s : State) : Host.Outcome State Fault Refusal :=
  .next (s.takeEvent (.headerReadError tag) (effHeaderReadError tag))

def execChainPollTimerExpiry (s : State) : Host.Outcome State Fault Refusal :=
  .next (s.takeEvent .chainPollTimerExpiry effChainPollTimerExpiry)

end Sys2Proof.Machine
end

