-- ==== Sys2Proof/Machine/Segments.lean ====
section
/-! DEFINITION. The commands by which segment reads return (R22, R63, R65, R101, R144, R152, R153). -/

namespace Sys2Proof.Machine

/-- The handle a segment read fixed at its grant. -/
def SegmentRead.handle (g : SegmentRead) : Handle := ⟨g.index, g.generation⟩

/-- The message a segment read sends or resends. -/
def SegmentRead.message (g : SegmentRead) : Message := .segment g.handle g.offset g.length

/-- The conditions of R153 on the delivery the handle names. -/
def State.segmentStands (s : State) (g : SegmentRead) (d : Delivery) : Bool :=
  decide (d.state = .sending) &&
    (if g.resend then (s.engine g.site).outstanding.any fun o => decide (o.message = g.message)
     else decide (d.sent = g.offset)) &&
    decide ((s.engine g.site).state = .online) && decide ((s.site g.site).lane = g.lane) &&
    decide ((s.lane g.lane).state = .up) && g.holds &&
    decide ((s.lane g.lane).transmitter = .granted g.site)

/-- The delivery for which all conditions of R153 hold. -/
def State.segmentAdmitted (s : State) (g : SegmentRead) : Option Delivery :=
  match s.named g.handle with
  | some d => if s.segmentStands g d then some d else none
  | none => none

/-- The grant is returned: the transmitter still GRANTED to the read becomes FREE (R152, R153, R168). -/
def State.returnGrant (s : State) (g : SegmentRead) : State :=
  if g.holds then s.setLane g.lane { s.lane g.lane with transmitter := .free } else s

/-- A new segment is handed over: it joins the list, a measurement begins if no other SEGMENT was
outstanding, and sent is raised (R65, R101, R152). -/
def State.joinSegment (s : State) (g : SegmentRead) (d : Delivery) : State :=
  let s1 := s.joinList g.site g.message
  let s2 := if (s.engine g.site).hasSegment then s1 else s1.beginMeasurement g.site
  s2.writeEntry g.index { d with sent := g.offset + g.length }

/-- The frame of a segment is handed to its lane (R152). A resend changes neither sent nor the list. -/
def State.sendSegment (s : State) (g : SegmentRead) (d : Delivery) (data : List Byte) : State :=
  (if g.resend then s else s.joinSegment g d).handFrame g.site g.lane
    (s.segmentFrame g.site g.handle g.offset g.length data)

/-- A segment read returned a bus error: DATA_READ for the entry, a resent segment leaves the list, and the
grant is returned (R22, R63, R144, R152). -/
def State.failSegment (s : State) (g : SegmentRead) : State :=
  let s1 := if g.resend then s.dropMessages g.site fun m => decide (m = g.message) else s
  let s2 :=
    match s1.named g.handle with
    | some d => s1.failAndReplan g.index d .dataRead
    | none => s1
  s2.returnGrant g

def ReadKind.isSegment : ReadKind → Bool
  | .segment _ => true
  | _ => false

/-- What a segment read that is still of interest does when it returns with data (R152, R153). -/
def State.takeSegment (s : State) (g : SegmentRead) (data : List Byte) : State :=
  match s.segmentAdmitted g with
  | some d => s.sendSegment g d data
  | none => s.returnGrant g

def effSegmentReadDone (tag : Nat) (data : List Byte) (s : State) : State :=
  s.onRead tag ReadKind.isSegment fun r s1 =>
    match r.kind with
    | .segment g => s1.takeSegment g data
    | _ => s1

def effSegmentReadError (tag : Nat) (s : State) : State :=
  s.onRead tag ReadKind.isSegment fun r s1 =>
    match r.kind with
    | .segment g => s1.failSegment g
    | _ => s1

def execSegmentReadDone (tag : Nat) (data : List Byte) (s : State) : Host.Outcome State Fault Refusal :=
  .next (s.takeEvent (.segmentReadDone tag data) (effSegmentReadDone tag data))

def execSegmentReadError (tag : Nat) (s : State) : Host.Outcome State Fault Refusal :=
  .next (s.takeEvent (.segmentReadError tag) (effSegmentReadError tag))

end Sys2Proof.Machine
end

