-- ==== Sys2Proof/Machine/TableTickets.lean ====
section
/-! DEFINITION. The ticket kinds of the delivery table, RELEASE, HOLD, RESUME, RECALL, RETRY and PURGE
(sections 4.4 and 4.6), and TARGET (section 6.2). -/

namespace Sys2Proof.Machine

/-! ### RELEASE (R66 to R72) -/

/-- The fields of a RELEASE that are refused out of range (R66 step 3). -/
def ReleaseBody.badField (b : ReleaseBody) : Bool :=
  decide (15 < b.sect) || decide (b.page = 0) || decide (255 < b.page) || decide (b.version = 0) ||
    decide (255 < b.version) || decide (b.size = 0) || decide (Config.sizeMax < b.size)

/-- The page offset as clamped (R66). -/
def ReleaseBody.offset (b : ReleaseBody) : Int :=
  clampInt (-Config.pageOffsetMax) Config.pageOffsetMax b.pageOffset

/-- Some in-use entry of a subscriber has the key at this version or above (R67). -/
def State.versionStale (s : State) (sites : List (Fin 16)) (key : Fin 32 × Nat × Nat) (version : Nat) :
    Bool :=
  s.inUse.any fun p =>
    decide (p.2.site ∈ sites) && decide (p.2.key = key) && decide (version ≤ p.2.version)

/-- The checks of R66 on an edition index in range, in their order. -/
def State.releaseRefusal (s : State) (e : Fin 32) (b : ReleaseBody) : Option Code :=
  if !(s.edition e).defined then some .noEdition
  else if s.subscribers e = [] then some .noSubscribers
  else if b.badField then some .badField
  else if !s.dataAdmitted b.dataAddress b.size then some .outOfWindow
  else if s.versionStale (s.subscribers e) (e, b.sect, b.page) b.version then some .staleVersion
  else if s.freeCount < (s.subscribers e).length then some .tableFull
  else none

/-- The delivery that a RELEASE creates for a subscriber (R69 step 2). -/
def State.newDelivery (s : State) (e : Fin 32) (b : ReleaseBody) (i : Fin 16) : Delivery :=
  { edition := e, sect := b.sect, page := b.page, version := b.version, site := i, state := .waiting,
    current := true, held := false, atRisk := false, late := false, replate := false,
    dataAddress := b.dataAddress, size := b.size, pageOffset := b.offset,
    deadline := deadlineOf ((getAt (s.edition e).plates i).getD 0) b.offset,
    releaseNumber := s.releaseCounter, sent := 0, acked := 0, prediction := none, reason := none,
    platedTime := none }

/-- Take the lowest free entry for one subscriber, and remember which (R52, R69 step 2). -/
def State.create (e : Fin 32) (b : ReleaseBody) (acc : State × List (Fin 16 × Fin 4096)) (i : Fin 16) :
    State × List (Fin 16 × Fin 4096) :=
  match acc.1.firstFree with
  | none => acc
  | some j => (acc.1.takeEntry j (acc.1.newDelivery e b i), acc.2 ++ [(i, j)])

/-- Supersession of a site's previous CURRENT entry, whose new entry has index `new` (Table 4-3, R70). -/
def State.supersede (s : State) (new old : Fin 4096) (d : Delivery) : State :=
  match d.state with
  | .waiting | .refused | .failed => s.freeEntry old
  | .offered | .sending | .delivered => s.withdrawEntry old d
  | .plated =>
    let s1 := s.writeEntry old { d with current := false, held := false }
    match s1.entry new with
    | some c =>
      let c1 := { c with replate := true }
      (s1.writeEntry new c1).hand (.note (s1.entryNote .replateNeeded new c1 d.version))
    | none => s1
  | .withdrawing => s

/-- Supersede at each subscriber; `before` is the state the ticket met (R69 step 3). That the sites, and with
them the rewrites of the entries superseded, are taken in ascending index: DESIGN CHOICE (log 5). -/
def State.supersedeAll (s before : State) (key : Fin 32 × Nat × Nat)
    (created : List (Fin 16 × Fin 4096)) : State :=
  created.foldl
    (fun st p =>
      match before.currentOf p.1 key with
      | some q => st.supersede p.2 q.1 q.2
      | none => st) s

/-- The release counter steps by one and saturates (R69 step 1). -/
def State.stepRelease (s : State) : State := { s with releaseCounter := satAdd s.releaseCounter 1 }

def releaseOwner (t : Ticket) (s : State) : State × Result :=
  let b := ReleaseBody.parse t.body
  if h : b.edition < 32 then
    let e : Fin 32 := ⟨b.edition, h⟩
    match s.releaseRefusal e b with
    | some c => (s, .refused c)
    | none =>
      let subs := s.subscribers e
      let key := (e, b.sect, b.page)
      let made := subs.foldl (State.create e b) (s.stepRelease, [])
      let previous := subs.filter fun i => (s.currentOf i key).isSome
      ((made.1.supersedeAll s key made.2).replanAll subs,
       ⟨.ok, maskBit maskPageOffset (decide (b.pageOffset ≠ b.offset)), made.2.length,
        previous.length⟩)
  else (s, .refused .noEdition)

def effRelease (s : State) : State := s.carryOut kindRelease releaseOwner

/-! ### Key-and-mask tickets (R77) -/

/-- The refusals of R77. -/
def PatternBody.badField (b : PatternBody) : Bool :=
  (decide (15 < b.selector) && decide (b.selector ≠ selectorAll)) ||
    (!b.anyEdition && decide (31 < b.edition)) || (!b.anySection && decide (15 < b.sect)) ||
    (!b.anyPage && (decide (b.page = 0) || decide (255 < b.page)))

/-- An entry in use matches a pattern (R77). -/
def PatternBody.fits (b : PatternBody) (d : Delivery) : Bool :=
  (b.anyEdition || decide (d.edition.val = b.edition)) && (b.anySection || decide (d.sect = b.sect)) &&
    (b.anyPage || decide (d.page = b.page)) &&
    (decide (b.selector = selectorAll) || decide (d.site.val = b.selector))

/-- The matching entries in use. They are taken in ascending index: DESIGN CHOICE (log 5). -/
def State.matching (s : State) (b : PatternBody) : List (Fin 4096 × Delivery) :=
  s.inUse.filter fun p => b.fits p.2

/-- The matching entries that carry CURRENT. -/
def State.matchingCurrent (s : State) (b : PatternBody) : List (Fin 4096 × Delivery) :=
  (s.matching b).filter fun p => p.2.current

/-- The sites with an entry of the list in their order. -/
def orderSites (ps : List (Fin 4096 × Delivery)) : List (Fin 16) :=
  sitesOf (ps.filter fun p => p.2.state.inOrder)

/-- HELD written on several entries, each site whose order holds one replanning once (R78, R79). -/
def State.setHeld (s : State) (held : Bool) (ps : List (Fin 4096 × Delivery)) : State :=
  (ps.foldl (fun st p => st.writeEntry p.1 { p.2 with held := held }) s).replanAll (orderSites ps)

def holdOwner (t : Ticket) (s : State) : State × Result :=
  let b := PatternBody.parse t.body
  if b.badField then (s, .refused .badField)
  else
    let current := s.matchingCurrent b
    let newly := current.filter fun p => !p.2.held
    (s.setHeld true newly, .ok newly.length current.length)

def resumeOwner (t : Ticket) (s : State) : State × Result :=
  let b := PatternBody.parse t.body
  if b.badField then (s, .refused .badField)
  else
    let current := s.matchingCurrent b
    let held := current.filter fun p => p.2.held
    (s.setHeld false held, .ok held.length current.length)

/-- What RECALL does to one matching CURRENT entry (R80). -/
def State.recallEntry (s : State) (p : Fin 4096 × Delivery) : State :=
  match p.2.state with
  | .waiting | .refused | .failed => s.freeEntry p.1
  | .offered | .sending | .delivered => s.withdrawEntry p.1 p.2
  | .plated => s.hand (.note (s.entryNote .recallTooLate p.1 p.2 (p.2.platedTime.getD 0)))
  | .withdrawing => s

/-- RECALL leaves an entry as it stands: PLATED (R80). -/
def Delivery.recalledTooLate (d : Delivery) : Bool := decide (d.state = .plated)

/-- RECALL frees an entry in this state, or makes it WITHDRAWING (R80). -/
def Delivery.recallable (d : Delivery) : Bool :=
  decide (d.state ≠ .plated) && decide (d.state ≠ .withdrawing)

/-- The planner replans: the entry leaves the order, or is freed (R53, R80, R90). -/
def Delivery.recallReplans (d : Delivery) : Bool :=
  d.state.inOrder || decide (d.state = .refused) || decide (d.state = .failed)

/-- A RECALL at the delivery table. Its entries are taken, and their WITHDRAWs queued, in ascending index,
then the sites replan in ascending index: DESIGN CHOICE (log 5). -/
def recallOwner (t : Ticket) (s : State) : State × Result :=
  let b := PatternBody.parse t.body
  if b.badField then (s, .refused .badField)
  else
    let current := s.matchingCurrent b
    ((current.foldl State.recallEntry s).replanAll
        (sitesOf (current.filter fun p => p.2.recallReplans)),
     .ok (current.filter fun p => p.2.recallable).length
       (current.filter fun p => p.2.recalledTooLate).length)

/-- REFUSED and FAILED (R81). -/
def Delivery.retriable (d : Delivery) : Bool := decide (d.state = .refused ∨ d.state = .failed)

/-- An entry that RETRY returns to WAITING (R81). -/
def Delivery.retried (d : Delivery) : Delivery :=
  { d with state := .waiting, sent := d.acked, reason := none }

def retryOwner (t : Ticket) (s : State) : State × Result :=
  let b := PatternBody.parse t.body
  if b.badField then (s, .refused .badField)
  else
    let again := (s.matching b).filter fun p => p.2.retriable
    ((again.foldl (fun st p => st.writeEntry p.1 p.2.retried) s).replanAll (sitesOf again),
     .ok again.length (s.matchingCurrent b).length)

def effHold (s : State) : State := s.carryOut kindHold holdOwner
def effResume (s : State) : State := s.carryOut kindResume resumeOwner
def effRecall (s : State) : State := s.carryOut kindRecall recallOwner
def effRetry (s : State) : State := s.carryOut kindRetry retryOwner

/-! ### PURGE (R82) -/

/-- The states PURGE frees. -/
def Delivery.purgeable (d : Delivery) : Bool :=
  decide (d.state = .delivered ∨ d.state = .plated ∨ d.state = .refused ∨ d.state = .failed)

def purgeOwner (t : Ticket) (s : State) : State × Result :=
  let n := purgeBody t.body
  if h : n < 32 then
    let ofEdition := s.inUse.filter fun p => decide (p.2.edition = ⟨n, h⟩)
    let gone := ofEdition.filter fun p => p.2.purgeable
    ((gone.foldl (fun st p => st.freeEntry p.1) s).replanAll (sitesOf gone),
     .ok gone.length (ofEdition.length - gone.length))
  else (s, .refused .badField)

def effPurge (s : State) : State := s.carryOut kindPurge purgeOwner

/-! ### TARGET (R112 to R116) -/

/-- A master value out of range: a density above 3,000, a tone above 400 (R112). -/
def mastersBad (v : Values) : Bool :=
  (List.finRange 8).any fun q => decide ((if q.val < 4 then 3000 else 400) < getAt v q)

/-- The checks of R112 on an edition index in range, in their order. -/
def State.targetRefusal (s : State) (e : Fin 32) (v : Values) : Option Code :=
  if !(s.edition e).defined then some .noEdition
  else if s.subscribers e = [] then some .noSubscribers
  else if mastersBad v then some .badField
  else none

/-- One subscriber taken, counting those whose values were significant. -/
def State.countTarget (e : Fin 32) (v : Values) (acc : State × Nat) (i : Fin 16) : State × Nat :=
  let r := acc.1.computeTarget e v i
  (r.1, if r.2 then acc.2 + 1 else acc.2)

def targetOwner (t : Ticket) (s : State) : State × Result :=
  let b := TargetBody.parse t.body
  if h : b.edition < 32 then
    let e : Fin 32 := ⟨b.edition, h⟩
    match s.targetRefusal e b.masters with
    | some c => (s, .refused c)
    | none =>
      let subs := s.subscribers e
      let r := subs.foldl (State.countTarget e b.masters) (s, 0)
      (r.1, .ok r.2 (subs.length - r.2))
  else (s, .refused .noEdition)

def effTarget (s : State) : State := s.carryOut kindTarget targetOwner

/-! ### Meanings -/

def execRelease (s : State) : Host.Outcome State Fault Refusal := .next (s.takeEvent .release effRelease)
def execHold (s : State) : Host.Outcome State Fault Refusal := .next (s.takeEvent .hold effHold)
def execResume (s : State) : Host.Outcome State Fault Refusal := .next (s.takeEvent .resume effResume)
def execRecall (s : State) : Host.Outcome State Fault Refusal := .next (s.takeEvent .recall effRecall)
def execRetry (s : State) : Host.Outcome State Fault Refusal := .next (s.takeEvent .retry effRetry)
def execPurge (s : State) : Host.Outcome State Fault Refusal := .next (s.takeEvent .purge effPurge)
def execTarget (s : State) : Host.Outcome State Fault Refusal := .next (s.takeEvent .target effTarget)

end Sys2Proof.Machine
end

