-- ==== Sys2Proof/Machine/Timers.lean ====
section
/-! DEFINITION. The expiries of the sites' and lanes' timers, and the production clock's millisecond (R83,
R91, R135, R137, R146, R148, R162). An expiry before its timer has run out changes nothing (log 1). -/

namespace Sys2Proof.Machine

/-! ### Expiries -/

/-- The receipt timer of an ONLINE site expires: the fourth expiry in a row loses it, any other marks all
that is outstanding for resending (R146). -/
def State.receiptExpiryOnline (s : State) (i : Fin 16) : State :=
  let e := s.engine i
  if Config.retryLimit ≤ e.retry + 1 then s.siteLost i lostNoAnswer
  else s.setEngine i
    { e with retry := e.retry + 1, receiptTimer := some (s.site i).receiptTimeout }.markAll

/-- The wait for WELCOME expires: HELLO again, and LOST after the fourth (R135). -/
def State.receiptExpiryJoining (s : State) (i : Fin 16) : State :=
  let e := s.engine i
  if e.helloCount < Config.retryLimit then
    s.setEngine i { e with helloDue := true, receiptTimer := none }
  else s.siteLost i lostNoAnswer

def effReceiptTimerExpiry (i : Fin 16) (s : State) : State :=
  if (s.engine i).receiptTimer = some 0 ∧ s.part ≠ .halted then
    match (s.engine i).state with
    | .online => (s.receiptExpiryOnline i).finish
    | .joining => (s.receiptExpiryJoining i).finish
    | _ => s
  else s

/-- The probe timer of an ONLINE site expires (R148). -/
def State.probeExpiryOnline (s : State) (i : Fin 16) : State :=
  let e := s.engine i
  s.setEngine i
    { e with probeTimer := some (s.site i).probeInterval,
             probeDue := e.probeDue ||
               (e.outstanding.isEmpty && !e.probeOutstanding && !e.resendDue) }

/-- The probe timer of a LOST site expires (R137). -/
def State.probeExpiryLost (s : State) (i : Fin 16) : State :=
  s.setEngine i { s.engine i with probeTimer := some (s.site i).probeInterval, helloDue := true }

def effProbeTimerExpiry (i : Fin 16) (s : State) : State :=
  if (s.engine i).probeTimer = some 0 ∧ s.part ≠ .halted then
    match (s.engine i).state with
    | .online => (s.probeExpiryOnline i).finish
    | .lost => (s.probeExpiryLost i).finish
    | _ => s
  else s

/-- The replan timer's expiry is taken (R91). One that another replan has overtaken, which restarted the
timer, replans all the same (R108; log 30). -/
def effReplanTimerExpiry (i : Fin 16) (s : State) : State :=
  if (s.planner i).expired = true ∧ s.part ≠ .halted then
    ((s.setPlanner i { s.planner i with expired := false }).replan i).finish
  else s

/-- The quiet timer of an UP lane expires (R162). -/
def effQuietTimerExpiry (l : Fin 4) (s : State) : State :=
  if (s.lane l).quietTimer = some 0 ∧ (s.lane l).state = .up ∧ s.part ≠ .halted then (s.laneDown l .quiet).finish else s

/-! ### The millisecond (R83) -/

/-- One millisecond of a running timer. -/
def tickTimer (t : Timer) : Timer := t.map fun n => n - 1

/-- The replan timer; when it has run out its expiry is to be taken (R91, R108). -/
def Planner.tick (p : Planner) : Planner :=
  { p with timer := tickTimer p.timer,
           expired := p.expired || decide (tickTimer p.timer = some 0) }

def Engine.tick (e : Engine) : Engine :=
  { e with receiptTimer := tickTimer e.receiptTimer, probeTimer := tickTimer e.probeTimer }

def Lane.tick (x : Lane) : Lane := { x with quietTimer := tickTimer x.quietTimer }

/-- Every running timer comes one millisecond nearer its expiry, whatever the clock reads (R83). -/
def State.tickTimers (s : State) : State :=
  { s with
    pollTimer := tickTimer s.pollTimer, planners := s.planners.map Planner.tick,
    engines := s.engines.map Engine.tick, lanes := s.lanes.map Lane.tick }

/-- The clock counts one millisecond in every part state and holds at its greatest value (R83). In HALTED
every timer is stopped (R29). -/
def effProductionClockTick (s : State) : State :=
  let s1 := { s with clock := if s.clock < Config.u32Max then s.clock + 1 else s.clock }
  if s.part = .halted then s1 else s1.tickTimers

/-! ### Meanings -/

def execReceiptTimerExpiry (i : Fin 16) (s : State) : Host.Outcome State Fault Refusal :=
  .next (s.takeEvent (.receiptTimerExpiry i) (effReceiptTimerExpiry i))

def execProbeTimerExpiry (i : Fin 16) (s : State) : Host.Outcome State Fault Refusal :=
  .next (s.takeEvent (.probeTimerExpiry i) (effProbeTimerExpiry i))

def execReplanTimerExpiry (i : Fin 16) (s : State) : Host.Outcome State Fault Refusal :=
  .next (s.takeEvent (.replanTimerExpiry i) (effReplanTimerExpiry i))

def execQuietTimerExpiry (l : Fin 4) (s : State) : Host.Outcome State Fault Refusal :=
  .next (s.takeEvent (.quietTimerExpiry l) (effQuietTimerExpiry l))

/-- The clock's own event places no write, and never waits. -/
def execProductionClockTick (s : State) : Host.Outcome State Fault Refusal :=
  .next (effProductionClockTick s)

end Sys2Proof.Machine
end

