-- ==== Sys2Proof/Machine/Queue.lean ====
section
/-! DEFINITION. The posted-write queue as the link empties it: the events that waited for room, failed
writes and the latch, a drained FENCE, and what happens while no command is pending (R4, R30, R31). -/

namespace Sys2Proof.Machine

/-- The effect of a command taken when the queue has room. -/
def effectOf : Instr → State → State
  | .powerOnReset c => effPowerOnReset c
  | .softReset c => effSoftReset c
  | .runStart h => effRunStart h
  | .runStop h => effRunStop h
  | .faultHaltWrite h => effFaultHaltWrite h
  | .boardLoWrite v => effBoardLoWrite v
  | .boardHiWrite v => effBoardHiWrite v
  | .nudge v => effNudge v
  | .ignoredRegisterWrite r v => effIgnoredRegisterWrite r v
  | .runTagReadDone t v => effRunTagReadDone t v
  | .pollIntervalReadDone t v => effPollIntervalReadDone t v
  | .chainEntryReadDone t v => effChainEntryReadDone t v
  | .ticketReadDone t d => effTicketReadDone t d
  | .linkRereadDone t d => effLinkRereadDone t d
  | .faultPresentReadDone t v => effFaultPresentReadDone t v
  | .freezeReadDone t b => effFreezeReadDone t b
  | .roomReadDone t v => effRoomReadDone t v
  | .headerReadError t => effHeaderReadError t
  | .chainPollTimerExpiry => effChainPollTimerExpiry
  | .window => effWindow
  | .fence => effFence
  | .fenceDrained => effFenceOutcome
  | .site => effSite
  | .edition => effEdition
  | .lane => effLane
  | .clock => effClock
  | .release => effRelease
  | .hold => effHold
  | .resume => effResume
  | .recall => effRecall
  | .retry => effRetry
  | .purge => effPurge
  | .target => effTarget
  | .badKind => effBadKind
  | .postedWriteFailed _ => id
  | .postedWriteQueueRoom => id
  | .segmentReadDone t d => effSegmentReadDone t d
  | .segmentReadError t => effSegmentReadError t
  | .receiptTimerExpiry i => effReceiptTimerExpiry i
  | .probeTimerExpiry i => effProbeTimerExpiry i
  | .replanTimerExpiry i => effReplanTimerExpiry i
  | .quietTimerExpiry l => effQuietTimerExpiry l
  | .carrierLost l => effCarrierLost l
  | .carrierGained l => effCarrierGained l
  | .transmissionComplete l => effTransmissionComplete l
  | .badFrame l b => effBadFrame l b
  | .welcome l f => effWelcome l f
  | .receipt l f => effReceipt l f
  | .refuse l f => effRefuse l f
  | .plated l f => effPlated l f
  | .withdrawn l f => effWithdrawn l f
  | .tooLate l f => effTooLate l f
  | .targetOk l f => effTargetOk l f
  | .echo l f => effEcho l f
  | .productionClockTick => effProductionClockTick

/-! ### Room (R4) -/

/-- The effect of an event that waited, once the queue has room. -/
def effectOfWaiter : Waiter → State → State
  | .command c => effectOf c
  | .grant l => fun s => arbitrate s.rounds l [] s
  | .siteRequest i old new => fun s => (effSiteRequest i old new s).finish
  | .paceRequest i => fun s => (effPaceRequest i s).finish
  | .headCheck => fun s => (effHeadCheck s).finish

def Waiter.isGrant : Waiter → Bool
  | .grant _ => true
  | _ => false

/-- A waiting event still waits: the queue is full again, and it is a grant or would place writes (R4). -/
def State.stillWaits (s : State) (w : Waiter) : Bool :=
  s.refusedByQueue (effectOfWaiter w s) || (s.queueFull && w.isGrant)

/-- The blocks waiting for the queue take their events in the order in which they began to wait (R4). The
first `k` of those waiting still wait, and so does any event behind them that is work of their blocks. -/
def releaseFrom : Nat → Nat → State → State
  | 0, _, s => s
  | n + 1, k, s =>
    match s.waiting[k]? with
    | none => s
    | some w =>
      let s1 := { s with waiting := s.waiting.eraseIdx k }
      if { s with waiting := s.waiting.take k }.mustWait w || s1.stillWaits w then
        releaseFrom n (k + 1) s
      else releaseFrom n k (effectOfWaiter w s1)

/-- A bound on the events a release looks at: an event that is taken can bring three requests and the grants
of four lanes to wait (log 26). -/
def State.releaseBound (s : State) : Nat := 8 * (s.waiting.length + 1)

/-- The queue has room: what waits for it is taken, and the lanes that can then grant do (R4). -/
def State.release (s : State) : State := (releaseFrom s.releaseBound 0 s).finish

/-- Writes that have left the queue make room when it was full and is full no more. -/
def State.releaseIfRoom (s : State) (wasFull : Bool) : State :=
  if wasFull && !s.queueFull then s.release else s

/-- The first `n` writes of the queue are issued to the link (R4). -/
def State.issueWrites (s : State) (n : Nat) : State :=
  { s with
    queue := s.queue.drop n,
    issued := s.issued ++ (s.queue.take n).map fun w => { write := w, stale := false } }

/-- The link takes writes until the queue is below 256 (R4; log 2). -/
def effPostedWriteQueueRoom (s : State) : State :=
  (s.issueWrites (s.queue.length + 1 - Config.queueLimit)).releaseIfRoom s.queueFull

/-! ### Completion and failure (R30, R31) -/

/-- A FENCE no longer waits for `n` of the writes it waited for. -/
def State.fenceCompleted (s : State) (n : Nat) : State :=
  match s.execution with
  | some (.fence waits) => { s with execution := some (.fence (waits - n)) }
  | _ => s

/-- The failure of a board write is latched: the first with its offset, any later one as MORE (R30). -/
def State.latchFailure (s : State) (offset : Nat) : State :=
  match s.latch with
  | none => { s with latch := some { offset := offset, more := false } }
  | some f => { s with latch := some { f with more := true } }

/-- The issued write at a place of the list of writes issued fails: it has completed, and it is latched if
it is a board write not issued before a soft reset (R30). -/
def effPostedWriteFailed (position : Nat) (s : State) : State :=
  match s.issued[position]? with
  | none => s
  | some w =>
    let s1 := { s with issued := s.issued.eraseIdx position }
    let s2 :=
      match s.execution with
      | some (.fence waits) => if position < waits then s1.fenceCompleted 1 else s1
      | _ => s1
    match w.write with
    | .board _ offset _ => if w.stale then s2 else s2.latchFailure offset
    | .msi => s2

/-- The writes a FENCE waits for complete: it waits for the first `n` issued and queued (R31; log 2). -/
def State.drainFence (s : State) (n : Nat) : State :=
  ({ s with issued := s.issued.drop n, queue := s.queue.drop (n - s.issued.length),
            execution := some (.fence 0) }).releaseIfRoom s.queueFull

/-- The last write a FENCE waits for completes, and the FENCE states its outcome, or waits for room to
place its retirement (R4, R31). -/
def effFenceDrained (s : State) : State :=
  if s.part = .running then
    match s.execution with
    | some (.fence n) => (s.drainFence n).takeEvent .fenceDrained effFenceOutcome
    | _ => s
  else s

/-! ### No command pending (log 2) -/

/-- With no command pending the link works on: it takes the front write of the queue, or completes the
oldest write issued. -/
def State.idle (s : State) : State :=
  match s.queue with
  | _ :: _ => (s.issueWrites 1).releaseIfRoom s.queueFull
  | [] =>
    match s.issued with
    | _ :: rest => { s with issued := rest }.fenceCompleted 1
    | [] => s

/-! ### Meanings -/

def execFenceDrained (s : State) : Host.Outcome State Fault Refusal := .next (effFenceDrained s)
def execPostedWriteFailed (position : Nat) (s : State) : Host.Outcome State Fault Refusal :=
  .next (effPostedWriteFailed position s)
def execPostedWriteQueueRoom (s : State) : Host.Outcome State Fault Refusal :=
  .next (effPostedWriteQueueRoom s)

end Sys2Proof.Machine
end

