-- ==== Sys2Proof/Machine/Dispatch.lean ====
section
/-! DEFINITION. The meaning of every command. -/

namespace Sys2Proof.Machine

def exec (i : Instr) (s : State) : Host.Outcome State Fault Refusal :=
  match i with
  | .powerOnReset c => Sys2Proof.Machine.execPowerOnReset c s
  | .softReset c => Sys2Proof.Machine.execSoftReset c s
  | .runStart h => Sys2Proof.Machine.execRunStart h s
  | .runStop h => Sys2Proof.Machine.execRunStop h s
  | .faultHaltWrite h => Sys2Proof.Machine.execFaultHaltWrite h s
  | .boardLoWrite v => Sys2Proof.Machine.execBoardLoWrite v s
  | .boardHiWrite v => Sys2Proof.Machine.execBoardHiWrite v s
  | .nudge v => Sys2Proof.Machine.execNudge v s
  | .ignoredRegisterWrite r v => Sys2Proof.Machine.execIgnoredRegisterWrite r v s
  | .runTagReadDone t v => Sys2Proof.Machine.execRunTagReadDone t v s
  | .pollIntervalReadDone t v => Sys2Proof.Machine.execPollIntervalReadDone t v s
  | .chainEntryReadDone t v => Sys2Proof.Machine.execChainEntryReadDone t v s
  | .ticketReadDone t d => Sys2Proof.Machine.execTicketReadDone t d s
  | .linkRereadDone t d => Sys2Proof.Machine.execLinkRereadDone t d s
  | .faultPresentReadDone t v => Sys2Proof.Machine.execFaultPresentReadDone t v s
  | .freezeReadDone t b => Sys2Proof.Machine.execFreezeReadDone t b s
  | .roomReadDone t v => Sys2Proof.Machine.execRoomReadDone t v s
  | .headerReadError t => Sys2Proof.Machine.execHeaderReadError t s
  | .chainPollTimerExpiry => Sys2Proof.Machine.execChainPollTimerExpiry s
  | .window => Sys2Proof.Machine.execWindow s
  | .fence => Sys2Proof.Machine.execFence s
  | .fenceDrained => Sys2Proof.Machine.execFenceDrained s
  | .site => Sys2Proof.Machine.execSite s
  | .edition => Sys2Proof.Machine.execEdition s
  | .lane => Sys2Proof.Machine.execLane s
  | .clock => Sys2Proof.Machine.execClock s
  | .release => Sys2Proof.Machine.execRelease s
  | .hold => Sys2Proof.Machine.execHold s
  | .resume => Sys2Proof.Machine.execResume s
  | .recall => Sys2Proof.Machine.execRecall s
  | .retry => Sys2Proof.Machine.execRetry s
  | .purge => Sys2Proof.Machine.execPurge s
  | .target => Sys2Proof.Machine.execTarget s
  | .badKind => Sys2Proof.Machine.execBadKind s
  | .postedWriteFailed n => Sys2Proof.Machine.execPostedWriteFailed n s
  | .postedWriteQueueRoom => Sys2Proof.Machine.execPostedWriteQueueRoom s
  | .segmentReadDone t d => Sys2Proof.Machine.execSegmentReadDone t d s
  | .segmentReadError t => Sys2Proof.Machine.execSegmentReadError t s
  | .receiptTimerExpiry k => Sys2Proof.Machine.execReceiptTimerExpiry k s
  | .probeTimerExpiry k => Sys2Proof.Machine.execProbeTimerExpiry k s
  | .replanTimerExpiry k => Sys2Proof.Machine.execReplanTimerExpiry k s
  | .quietTimerExpiry l => Sys2Proof.Machine.execQuietTimerExpiry l s
  | .carrierLost l => Sys2Proof.Machine.execCarrierLost l s
  | .carrierGained l => Sys2Proof.Machine.execCarrierGained l s
  | .transmissionComplete l => Sys2Proof.Machine.execTransmissionComplete l s
  | .badFrame l b => Sys2Proof.Machine.execBadFrame l b s
  | .welcome l f => Sys2Proof.Machine.execWelcome l f s
  | .receipt l f => Sys2Proof.Machine.execReceipt l f s
  | .refuse l f => Sys2Proof.Machine.execRefuse l f s
  | .plated l f => Sys2Proof.Machine.execPlated l f s
  | .withdrawn l f => Sys2Proof.Machine.execWithdrawn l f s
  | .tooLate l f => Sys2Proof.Machine.execTooLate l f s
  | .targetOk l f => Sys2Proof.Machine.execTargetOk l f s
  | .echo l f => Sys2Proof.Machine.execEcho l f s
  | .productionClockTick => Sys2Proof.Machine.execProductionClockTick s

end Sys2Proof.Machine
end

