-- ==== Sys2Proof/Safety.lean ====
section
/-! DEFINITION. What the claims speak of: when the block takes an event at once, when no lane can grant,
and the laws that every reachable state keeps. -/

namespace Sys2Proof.Machine

/-- No event waits, the posted-write queue has room, and no event is in progress: a command is taken at
once (R4). -/
def State.ready (s : State) : Prop :=
  s.waiting = [] ∧ s.queue.length < Config.queueLimit ∧ s.handed = []

/-- No lane can grant: none is UP with its transmitter FREE, or the part is HALTED (R168, R171). -/
def State.noGrant (s : State) : Prop := ∀ l, s.canGrant l = false

/-- The block but for what grants, replans, the writer and the waiting for room touch: what is left are the
registers, the part state, the ticket reader, the window list, the fault unit, the site and edition tables,
the release counter, the freeze copy, the clock and the model's own queue of commands. -/
def State.outline (s : State) : State :=
  { s with
    queue := [], waiting := [], handed := [], reads := [], nextTag := 0, pollTimer := none,
    deliveries := State.reset.deliveries, targets := State.reset.targets,
    planners := State.reset.planners, engines := State.reset.engines, lanes := State.reset.lanes,
    writeIndex := 0, readIndex := 0, heldNotes := [], roomReadInFlight := false, notesFull := false,
    interruptOutstanding := false, rewrites := RewriteCounts.reset }

/-- The ticket in execution is this one, alone in the buffer, with the reader waiting behind it. -/
def State.alone (s : State) (tk : Ticket) : Prop :=
  s.part = .running ∧ s.stopping = false ∧ s.execution = some .handed ∧ s.buffer = [.ticket tk] ∧
    s.reader = .waiting

/-- The block after a ticket that is alone has retired with nothing else to do: the writes of Figure 1-2
placed, the buffer empty, the ticket the last retired (R14). -/
def State.retired (s : State) (tk : Ticket) (r : Result) : State := (s.retire tk r).flush

/-- The writes of a retirement in the order of Figure 1-2: into a ticket of the board ticket area its outcome
and last its posting byte, then the retirement log record and the progress word (R14). -/
def State.retirementWrites (s : State) (tk : Ticket) (r : Result) : List PostedWrite :=
  (if s.inTicketArea tk.address then
    [s.boardWrite (tk.address - s.base + 0x0E) (resultBytes r),
     s.boardWrite (tk.address - s.base + 0x0D) [0xD0]]
   else []) ++
  [s.boardWrite (0x400 + 16 * (tk.sequence % 64)) (logBytes tk r), s.boardWrite 0x010 (le 4 tk.sequence)]

/-- A ticket has retired with this result: it is the last retired ticket, and the writes of its retirement
have been placed, one after the other (R14). -/
def Retires (s t : State) (tk : Ticket) (r : Result) : Prop :=
  t.lastRetired = some { address := tk.address, sequence := tk.sequence, link := tk.link } ∧
    ∃ before after, t.queue = s.queue ++ before ++ s.retirementWrites tk r ++ after

/-- The command answers the state that the grants of every lane that can grant leave of `x` (R168). -/
def thenGrants (c : Instr) (s x : State) : Prop := exec c s = .next x.arbitrateAll

/-- The same delivery but for what a replan judges: prediction, AT_RISK and LATE, which once set stays set
(R99). -/
def Delivery.replannedAs (d x : Delivery) : Prop :=
  x = { d with prediction := x.prediction, atRisk := x.atRisk, late := x.late } ∧
    (d.late = true → x.late = true)

/-- An entry of `s` with its generation kept and this delivery, or none, in `x`. -/
def State.slotBecomes (s x : State) (j : Fin 4096) (o : Option Delivery) : Prop :=
  (x.slot j).generation = (s.slot j).generation ∧
    match o with
    | none => x.entry j = none
    | some d => ∃ d1, x.entry j = some d1 ∧ d.replannedAs d1

/-- Every entry in use becomes what `f` gives, or is freed where `f` gives none; every free one stays free. -/
def State.entriesBecome (s x : State) (f : Fin 4096 → Delivery → Option Delivery) : Prop :=
  ∀ j, s.slotBecomes x j ((s.entry j).bind (f j))

/-- A delivery whose site is lost or moved: OFFERED and SENDING return to WAITING, sent set to acked
(R64). -/
def Delivery.lost (d : Delivery) : Delivery :=
  if d.state = .offered ∨ d.state = .sending then { d with state := .waiting, sent := d.acked } else d

/-- Every correction factor and drift counter is as it was. -/
def State.pacesKept (s x : State) : Prop :=
  ∀ i, (x.planner i).factor = (s.planner i).factor ∧ (x.planner i).drift = (s.planner i).drift

/-- The SENT target records of a site have returned to PENDING, and its others are as they were (R123). -/
def State.targetsReturned (s x : State) (i : Fin 16) : Prop :=
  ∀ e, ((s.target e i).state ≠ .sent → x.target e i = s.target e i) ∧
    ∀ v, (s.target e i).state = .sent → (s.target e i).lastSent = some v →
      x.target e i =
        { s.target e i with state := .pending, pending := some ((s.target e i).pending.getD v) }

/-- The loss rule has been applied to a site (R64, R123, R138): its order's entries, its targets, its
measurement, and an engine with nothing outstanding whose WITHDRAWs are queued again, oldest first. -/
def State.siteLetGo (s x : State) (i : Fin 16) : Prop :=
  (∀ j ∈ (s.planner i).order, ∀ d, s.entry j = some d → s.slotBecomes x j (some d.lost)) ∧
    s.targetsReturned x i ∧ (x.planner i).measurement = none ∧ (x.engine i).outstanding = [] ∧
    (x.engine i).withdrawQueue = withdrawsOf (s.engine i).outstanding ++ (s.engine i).withdrawQueue ∧
    (x.engine i).probeOutstanding = false ∧ (x.engine i).retry = 0 ∧ (x.engine i).receiptTimer = none

/-- The engine after an answer: the messages it answers released, and if there was one the retry count 0,
the PROBE mark cleared, and the receipt timer restarted or stopped (R142). -/
def Engine.answered (e : Engine) (timeout : Nat) (p : Message → Bool) : Engine :=
  let kept := e.outstanding.filter fun o => !p o.message
  if kept.length = e.outstanding.length then e
  else
    { e with outstanding := kept, retry := 0, probeOutstanding := false, probeResend := false,
             receiptTimer := if kept.isEmpty then none else some timeout }

/-- The lane to which the sites of a lane that goes DOWN move: its standby lane, if failover is enabled and
that lane is another one and UP (R164). -/
def State.standbyUp (s : State) (l : Fin 4) (failover : Bool) (standby : Option (Fin 4)) :
    Option (Fin 4) :=
  if failover then standby.filter fun b => decide (b ≠ l ∧ (s.lane b).state = .up) else none

/-- What becomes of the sites of a lane that goes DOWN: each moves to that lane, or is LOST with the loss rule
if it was JOINING or ONLINE; every other site is as it was (R140, R163, R164). -/
def State.sitesLeave (s x : State) (l : Fin 4) (dest : Option (Fin 4)) : Prop :=
  let carried (i : Fin 16) : Prop := (s.site i).enabled = true ∧ (s.site i).lane = l
  let live (i : Fin 16) : Prop := (s.engine i).state = .joining ∨ (s.engine i).state = .online
  s.pacesKept x ∧
    (∀ i b, carried i → dest = some b →
      x.site i = { s.site i with lane := b } ∧ s.siteLetGo x i ∧ (x.engine i).state = .joining ∧
      (x.engine i).helloCount = 0 ∧ (x.engine i).helloDue = true ∧ (x.engine i).probeTimer = none) ∧
    (∀ i, carried i → dest = none → live i →
      x.site i = s.site i ∧ s.siteLetGo x i ∧ (x.engine i).state = .lost ∧
      (x.engine i).helloDue = true ∧ (x.engine i).probeTimer = some (s.site i).probeInterval) ∧
    (∀ i, ¬ carried i ∨ dest = none ∧ ¬ live i →
      x.site i = s.site i ∧ x.engine i = s.engine i ∧ ∀ e, x.target e i = s.target e i) ∧
    ∀ j, (∀ i, carried i → j ∉ (s.planner i).order) → s.slotBecomes x j (s.entry j)

/-! ### Notes as they are written -/

/-- The writes of a note into its slot, of the write index after it, and the MSI if interrupt-outstanding is
clear and it is permitted (R175, R179). -/
def State.noteWrites (s : State) (n : Note) : List PostedWrite :=
  [s.boardWrite (0x3000 + 32 * (s.writeIndex % 256)) (noteBytes n),
   s.boardWrite 0x014 (le 4 ((s.writeIndex + 1) % 4294967296))] ++
  if s.interruptOutstanding = false ∧ s.msiPermitted = true then [.msi] else []

/-- The writer has room for a note: a base, NOTES_FULL clear, none held, and a free slot (R173, R175). -/
def State.noteRoom (s : State) : Prop :=
  s.base ≠ 0 ∧ s.notesFull = false ∧ s.heldNotes = [] ∧ s.noteCount < 256

/-- The writes that one note brings as it is handed over: with room its own; none where it is discarded with the
base zero (R173), lost while NOTES_FULL stands (R177), or held; NOTES_FULL where eight are held (R176, R177). -/
def State.noteGoesOut (s : State) (n : Note) : List PostedWrite :=
  if s.base = 0 ∨ s.notesFull = true then []
  else if s.heldNotes = [] ∧ s.noteCount < 256 then s.noteWrites n
  else if s.heldNotes.length < 8 then []
  else [s.boardWrite 0x01C [1]]

/-- While the ring has room for all of them, these notes of an event are written in this order behind `before`
other notes of it, each into the slot of its write index, with the write index after it (R175). -/
def State.notesWritten (s x : State) (before : Nat) (notes : List Note) : Prop :=
  s.base ≠ 0 → s.notesFull = false → s.heldNotes = [] →
    s.noteCount + before + notes.length ≤ 256 →
    ∀ k n, notes[k]? = some n →
      s.boardWrite (0x3000 + 32 * ((s.writeIndex + before + k) % 256)) (noteBytes n) ∈ x.queue ∧
      s.boardWrite 0x014 (le 4 ((s.writeIndex + before + k + 1) % 4294967296)) ∈ x.queue

/-- These are the notes of an event, in this order: with room for all of them each is written, and the write
index has stepped by their number (R175). -/
def State.notesAre (s x : State) (notes : List Note) : Prop :=
  s.notesWritten x 0 notes ∧
    (s.base ≠ 0 → s.notesFull = false → s.heldNotes = [] → s.noteCount + notes.length ≤ 256 →
      x.writeIndex =
        if notes = [] then s.writeIndex else (s.writeIndex + notes.length) % 4294967296)

/-- A note that names a delivery entry: its site, handle, key and version, and the code of its edition
(R174). -/
def State.aboutEntry (s : State) (kind : NoteKind) (h : Handle) (d : Delivery) (value : Int) : Note :=
  { kind := kind, site := some d.site, code := some (s.edition d.edition).code,
    entry := some { index := h.index, generation := h.generation, edition := d.edition, sect := d.sect,
                    page := d.page, version := d.version },
    time := s.clock, value := value }

/-- A note that names no entry and no edition (R174). -/
def State.aboutSite (s : State) (kind : NoteKind) (site : Option (Fin 16)) (value : Int) : Note :=
  { kind := kind, site := site, code := none, entry := none, time := s.clock, value := value }

/-- A note about a site's target for an edition (R174). -/
def State.aboutTarget (s : State) (kind : NoteKind) (i : Fin 16) (e : Fin 32) (value : Int) : Note :=
  { kind := kind, site := some i, code := some (s.edition e).code, entry := none, time := s.clock,
    value := value }

/-- The notes of a replan of a site that leads from `s` to `x`: AT_RISK with its slack for each entry of the
order whose flag has been set, then LATE with deadline − now for each entry of the order, and behind them each
REFUSED or FAILED one in ascending index, that has become LATE (R97, R99). -/
def State.replanNotes (s x : State) (i : Fin 16) : List Note :=
  let order := (x.planner i).order
  let stopped := x.inUse.filter fun p =>
    decide (p.2.site = i) && (decide (p.2.state = .refused) || decide (p.2.state = .failed))
  (order.filterMap fun j =>
    match s.entry j, x.entry j with
    | some d, some y =>
      if d.atRisk = false ∧ y.atRisk = true then
        y.prediction.map fun v => s.aboutEntry .atRisk (s.handleOf j) y v.slack
      else none
    | _, _ => none) ++
  ((order ++ stopped.map Prod.fst).filterMap fun j =>
    match s.entry j, x.entry j with
    | some d, some y =>
      if d.late = false ∧ y.late = true then
        some (s.aboutEntry .late (s.handleOf j) y
          (max (-2147483648) (min 2147483647 ((y.deadline : Int) - s.clock))))
      else none
    | _, _ => none)

/-- The notes of a lane that goes DOWN: LANE_DOWN, then for each site it carries, in ascending index, those of
its replan, and LANE_FAILOVER where it moves or SITE_LOST where it was JOINING or ONLINE (R97, R99, R140, R163,
R164). -/
def State.laneDownNotes (s x : State) (l : Fin 4) (cause : DownCause) (dest : Option (Fin 4)) : List Note :=
  s.aboutSite .laneDown none (l.val + 256 * cause.code) ::
    (s.carried l).flatMap fun i =>
      match dest with
      | some b => s.replanNotes x i ++ [s.aboutSite .laneFailover (some i) (l.val + 256 * b.val)]
      | none =>
        if (s.engine i).state = .joining ∨ (s.engine i).state = .online then
          s.replanNotes x i ++ [s.aboutSite .siteLost (some i) 2]
        else []

/-! ### Starts, faults and retirements -/

/-- The block as the ticket reader begins, without a fault: it reads the chain entry address, or re-reads the
link of the last retired ticket (R9). -/
def State.begun (s : State) : State :=
  match s.lastRetired with
  | none =>
    { s with
      reader := .fetching, nextTag := s.nextTag + 1,
      reads := s.reads ++
        [{ tag := s.nextTag, kind := .chainEntry, address := s.base + 0x000, live := true }] }
  | some p =>
    { s with
      reader := .rereading, nextTag := s.nextTag + 1,
      reads := s.reads ++
        [{ tag := s.nextTag, kind := .link, address := p.address, live := true }] }

/-- The block as a start enters RUNNING: the start refresh placed, the poll timer at the interval held, the run
tag and the poll interval being read (R5, R11, R173). -/
def State.starting (s : State) : State :=
  let two : List Read :=
    [{ tag := s.nextTag, kind := .runTag, address := s.base + 0x00C, live := true },
     { tag := s.nextTag + 1, kind := .pollInterval, address := s.base + 0x008, live := true }]
  { s with
    part := .running, noBoard := false, stopping := false, rewrites := s.rewrites.stepAll,
    queue := s.queue ++ { s with rewrites := s.rewrites.stepAll }.refreshWrites,
    pollTimer := if s.pollInterval = 0 then none else some s.pollInterval,
    reads := s.reads ++ two, nextTag := s.nextTag + 2 }

/-- The block after a start, the reader begun without a fault (R9). -/
def State.started (s : State) : State := s.starting.begun

/-- A read of this kind at this address is in flight, issued in the event: its tag was not given before
(log 3). -/
def State.newRead (s t : State) (kind : ReadKind) (address : Nat) : Prop :=
  ∃ r ∈ t.reads, s.nextTag ≤ r.tag ∧ r.kind = kind ∧ r.address = address ∧ r.live = true

/-- The writes of a first fault: its CHAIN_FAULT note, the fault block, and last the fault-present byte, the
fault block in one write (R23; log 11). -/
def State.faultWrites (s : State) (kind : FaultKind) (address found : Nat) : List PostedWrite :=
  s.noteGoesOut (s.aboutSite .chainFault none kind.code) ++
    [s.boardWrite 0x040
       (faultBytes kind (if s.faultHalt then .halted else .stalled)
         (s.lastRetired.map fun p => (p.sequence + 1) % 4294967296) address found s.clock),
     s.boardWrite 0x060 [1]]

/-- A first fault has been recorded while the part was RUNNING: fault present, the state FAULT_HALT chooses,
the reader stopped and its buffer empty, and the writes of the fault placed (R23, R24). -/
def State.faultRecorded (s t : State) (kind : FaultKind) (address found : Nat) : Prop :=
  t.faultPresent = true ∧ t.part = (if s.faultHalt then .halted else .stalled) ∧
    t.stallOrigin = some .running ∧ t.buffer = [] ∧ t.execution = none ∧ t.reader = .stopped ∧
    t.rereadRequest = false ∧
    ∃ after, t.queue = s.queue ++ s.faultWrites kind address found ++ after

/-- What the reader does once this ticket has retired, with the windows and the clock as `w` holds them. A part
that stops enters IDLE, and with RUN 1 again starts at once, re-reading the link of the ticket, or is refused for
want of a base, and a ticket that is no longer admitted faults (R5, R6, R21, R23, Figure 1-1). A reader that runs
takes the ticket behind it into execution, if that passes R12, and follows the newest link if it found the buffer
full (R9, R12, R15). -/
def State.goesOn (s w t : State) (tk : Ticket) : Prop :=
  (s.stopping = true → s.buffer = [.ticket tk] →
    t.buffer = [] ∧ t.execution = none ∧ t.stopping = false ∧ (s.run = false → t.part = .idle) ∧
    (s.run = true → s.base = 0 → t.part = .idle ∧ t.run = false ∧ t.noBoard = true) ∧
    (s.run = true → s.base ≠ 0 → w.ticketAdmitted tk.address = true →
      t.part = .running ∧ t.run = true ∧ t.noBoard = false ∧ t.reader = .rereading ∧
      t.pollTimer = (if s.pollInterval = 0 then none else some s.pollInterval) ∧
      s.newRead t .runTag (s.base + 0x00C) ∧ s.newRead t .pollInterval (s.base + 0x008) ∧
      s.newRead t .link tk.address) ∧
    (s.run = true → s.base ≠ 0 → w.ticketAdmitted tk.address = false → s.faultPresent = false →
      let entered : PartState := if s.faultHalt then .halted else .stalled
      t.faultPresent = true ∧ t.part = entered ∧ t.stallOrigin = some .running ∧ t.reader = .stopped ∧
      ∃ before after, t.queue = before ++
        [s.boardWrite 0x040
           (faultBytes .linkWindow entered (some ((tk.sequence + 1) % 4294967296)) tk.address 0 w.clock),
         s.boardWrite 0x060 [1]] ++ after)) ∧
  (s.stopping = false → s.buffer = [.ticket tk] → s.reader ≠ .full →
    t.part = .running ∧ t.buffer = [] ∧ t.execution = none ∧ t.reader = s.reader) ∧
  ∀ nx rest, s.stopping = false → s.buffer = .ticket tk :: .ticket nx :: rest → nx.posting = 0x5A →
    nx.sequence = (tk.sequence + 1) % 4294967296 →
    t.part = .running ∧ t.execution = some .handed ∧
    (s.reader ≠ .full → t.buffer = .ticket nx :: rest ∧ t.reader = s.reader) ∧
    ∀ last, s.reader = .full → rest.length < 3 →
      (BufferItem.ticket nx :: rest).getLast? = some (.ticket last) → last.link ≠ 0 →
      last.link % 128 = 0 → w.ticketAdmitted last.link = true →
      t.buffer = .ticket nx :: rest ∧ t.reader = .fetching ∧ s.newRead t .ticket last.link

/-- The ticket whose link the reader begins with, if one has retired, is admitted (R9, R20). -/
def State.beginsAdmitted (s : State) : Prop :=
  ∀ p, s.lastRetired = some p → s.ticketAdmitted p.address = true

/-! ### Notes and mirror rewrites -/

/-- The writer's room read, issued unless one is in flight (R176, R177). -/
def State.roomRead (s : State) : List Read :=
  if s.roomReadInFlight then []
  else [{ tag := s.nextTag, kind := .readIndex true, address := s.base + 0x018, live := true }]

/-- What the writer makes of one note, outside HALTED: the writes `ws`, and its own fields in `x`. With the
base zero the note is discarded (R173); while NOTES_FULL stands it is lost (R177); with room it is written
(R175, R179); otherwise it is held (R176), or lost when eight are held, which sets NOTES_FULL (R176, R177). -/
def State.noteTaken (s x : State) (n : Note) (ws : List PostedWrite) : Prop :=
  x.readIndex = s.readIndex ∧
    (s.base = 0 →
      ws = [] ∧ x.writeIndex = s.writeIndex ∧ x.notesFull = s.notesFull ∧ x.heldNotes = s.heldNotes ∧
      x.interruptOutstanding = s.interruptOutstanding ∧ x.reads = s.reads) ∧
    (s.base ≠ 0 → s.notesFull = true →
      ws = [] ∧ x.writeIndex = s.writeIndex ∧ x.notesFull = true ∧ x.heldNotes = s.heldNotes ∧
      x.interruptOutstanding = s.interruptOutstanding ∧ x.reads = s.reads ++ s.roomRead) ∧
    (s.noteRoom →
      ws = s.noteWrites n ∧ x.writeIndex = (s.writeIndex + 1) % 4294967296 ∧ x.notesFull = false ∧
      x.heldNotes = [] ∧ x.interruptOutstanding = true ∧ x.reads = s.reads) ∧
    (s.base ≠ 0 → s.notesFull = false → s.heldNotes ≠ [] ∨ 256 ≤ s.noteCount → s.heldNotes.length < 8 →
      ws = [] ∧ x.writeIndex = s.writeIndex ∧ x.notesFull = false ∧ x.heldNotes = s.heldNotes ++ [n] ∧
      x.interruptOutstanding = s.interruptOutstanding ∧ x.reads = s.reads ++ s.roomRead) ∧
    (s.base ≠ 0 → s.notesFull = false → 8 ≤ s.heldNotes.length →
      ws = [s.boardWrite 0x01C [1]] ∧ x.writeIndex = s.writeIndex ∧ x.notesFull = true ∧
      x.heldNotes = s.heldNotes ∧ x.interruptOutstanding = s.interruptOutstanding ∧ x.reads = s.reads)

/-- A mirror record's rewrite: lead stamp, body and trail stamp, each stamp the rewrite count stepped by one
and, for a delivery record, the entry's generation (R181). With the base zero nothing is written (R173). -/
def State.mirrorWrites (s : State) (offset size : Nat) (count generation : Byte) (body : List Byte) :
    List PostedWrite :=
  if s.base = 0 then []
  else
    [s.boardWrite offset [count + 1, generation], s.boardWrite (offset + 2) body,
     s.boardWrite (offset + size - 2) [count + 1, generation]]

/-- The rewrite of a delivery record (R182). -/
def State.deliveryMirror (s : State) (h : Handle) (d : Option Delivery) : List PostedWrite :=
  s.mirrorWrites (0x10000 + 64 * h.index.val) 64 (getAt s.rewrites.delivery h.index) h.generation
    (deliveryBody d)

/-- The rewrite of a site record, dropped while the site's freeze copy is set (R183). -/
def State.siteMirror (s : State) (i : Fin 16) (body : List Byte) : List PostedWrite :=
  if getAt s.freeze i then []
  else s.mirrorWrites (0x5000 + 128 * i.val) 128 (getAt s.rewrites.site i) 0 body

/-- The rewrite of a lane record (R185). -/
def State.laneMirror (s : State) (l : Fin 4) (body : List Byte) : List PostedWrite :=
  s.mirrorWrites (0x5800 + 64 * l.val) 64 (getAt s.rewrites.lane l) 0 body

/-- The rewrite of a target record (R185). -/
def State.targetMirror (s : State) (e : Fin 32) (i : Fin 16) (t : TargetRecord) : List PostedWrite :=
  s.mirrorWrites (0x6000 + 32 * (e.val * 16 + i.val)) 32 (getAt s.rewrites.target (pairIndex e i)) 0
    (targetBody t)

/-! ### Grants -/

/-- A frame is out on a lane, and when it is done the arbiter of that lane alone can grant, to this site alone
(R168). -/
def State.grantsTo (s : State) (l : Fin 4) (i : Fin 16) : Prop :=
  (∃ f, (s.lane l).transmitter = .sending f) ∧ s.part ≠ .halted ∧ (s.lane l).state = .up ∧
    s.carried l = [i] ∧ ∀ m, m ≠ l → s.canGrant m = false

/-- A frame of this kind to a site with this handle, offset, length and payload: the run tag held, sender 0,
the site's station number, and zero in the other fields (R127, R128). -/
def State.frameTo (s : State) (i : Fin 16) (f : Frame) (kind : Nat) (h : Option Handle) (offset : Nat)
    (payload : List Byte) : Prop :=
  f.runTag = s.runTag ∧ f.sender = 0 ∧ f.addressee = (s.site i).station ∧ f.kind = kind ∧ f.reason = 0 ∧
    f.generation = h.elim 0 Handle.generation ∧ f.index = h.elim 0 (fun x => x.index.val) ∧
    f.offset = offset ∧ f.length = payload.length ∧ f.count = 0 ∧ f.payload = payload

/-- The block with a frame handed to a lane's transmitter for an ONLINE site, whose engine is `e` but that its
probe timer restarts and no PROBE is due (R148, R167). -/
def State.sends (s : State) (l : Fin 4) (i : Fin 16) (f : Frame) (e : Engine) : State :=
  (s.setLane l { s.lane l with transmitter := .sending f }).setEngine i
    { e with probeTimer := some (s.site i).probeInterval, probeDue := false }

/-- The receipt timer when a message joins a list that held these: it starts when they and the PROBE are none
(R145). -/
def Engine.timerJoining (e : Engine) (kept : List Outstanding) (timeout : Nat) : Timer :=
  if kept = [] ∧ e.probeOutstanding = false then some timeout else e.receiptTimer

/-- An UP lane that has heard a good frame: its quiet timer restarted, or stopped where quiet is not in force
(R160, R162). -/
def State.heard (s : State) (l : Fin 4) : State :=
  s.setLane l
    { s.lane l with
      quietTimer :=
        if (s.lane l).quietEnable || (s.lane l).failover then some ((s.lane l).quietTime * 1000) else none }

/-- The eight messages of the sites, as this frame at this lane (R129). -/
def siteMessages (l : Fin 4) (f : InFrame) : List Instr :=
  [.welcome l f, .receipt l f, .refuse l f, .plated l f, .withdrawn l f, .tooLate l f, .targetOk l f,
   .echo l f]

/-- K after the closing of a measurement, as R103 computes it. -/
def closingFactor (n k elapsed bytes : Nat) : Int :=
  let pace : Nat := max 1 elapsed * 1048576 / bytes
  let k1 : Nat := pace * 4096 / n
  max 2048 (min 16383 ((k : Int) + ((k1 : Int) - k).tdiv 8))

/-- The owner of each kind but FENCE, with the command that carries the kind out (Table 1-3). -/
def ticketOwners : List (Nat × Instr × (Ticket → State → State × Result)) :=
  [(kindWindow, .window, windowOwner), (kindSite, .site, siteOwner),
   (kindEdition, .edition, editionOwner), (kindLane, .lane, laneOwner), (kindClock, .clock, clockOwner),
   (kindRelease, .release, releaseOwner), (kindHold, .hold, holdOwner),
   (kindResume, .resume, resumeOwner), (kindRecall, .recall, recallOwner),
   (kindRetry, .retry, retryOwner), (kindPurge, .purge, purgeOwner), (kindTarget, .target, targetOwner)]

/-- A frame that the lane hands to a site's engine: the part not HALTED, the lane UP with carrier, the run
tag held, addressee 0, no payload, and the site enabled on that lane with the sender's station, its engine
not UNSET. No other enabled site has that station. -/
def State.reaches (s : State) (l : Fin 4) (f : InFrame) (i : Fin 16) : Prop :=
  s.part ≠ .halted ∧ (s.lane l).state = .up ∧ (s.lane l).carrier = true ∧ f.length = 0 ∧
    s.routeFrame l f = some i ∧ (s.engine i).state ≠ .unset

/-- The frame's handle names this delivery of that site (R131 step 2). -/
def State.reports (s : State) (f : InFrame) (i : Fin 16) (h : Handle) (d : Delivery) : Prop :=
  inHandle f = some h ∧ s.named h = some d ∧ d.site = i

/-- Every correction factor lies within 2,048 to 16,383, every drift counter within −63 to +63 (R85), and
every drift compare is at most 63 (Table 3-1). -/
def State.pacesInRange (s : State) : Prop :=
  ∀ i, 2048 ≤ (s.planner i).factor ∧ (s.planner i).factor ≤ 16383 ∧ -63 ≤ (s.planner i).drift ∧
    (s.planner i).drift ≤ 63 ∧ (s.site i).driftCompare ≤ 63

/-- The state belongs to the site order (R86). -/
def Delivery.waitsOrGoes (d : Delivery) : Prop :=
  d.state = .waiting ∨ d.state = .offered ∨ d.state = .sending

/-- Every site order holds the site's WAITING, OFFERED and SENDING entries and no other, each once, sorted by
deadline, REPLATE, release number and index (R86, R87). -/
def State.ordersKept (s : State) : Prop :=
  ∀ i, (s.planner i).order.Nodup ∧
    (∀ j, j ∈ (s.planner i).order ↔ ∃ d, s.entry j = some d ∧ d.site = i ∧ d.waitsOrGoes) ∧
    (s.planner i).order.Pairwise fun j k => ∀ x y, s.entry j = some x → s.entry k = some y →
      x.deadline < y.deadline ∨ x.deadline = y.deadline ∧
        (x.replate = true ∧ y.replate = false ∨ x.replate = y.replate ∧
          (x.releaseNumber < y.releaseNumber ∨ x.releaseNumber = y.releaseNumber ∧ j < k))

/-- For every entry in use acked is at most sent and sent at most size; acked is size in DELIVERED and PLATED,
and sent is acked in WAITING and OFFERED (R57, Table 4-2). -/
def State.countsKept (s : State) : Prop :=
  ∀ j d, s.entry j = some d → d.acked ≤ d.sent ∧ d.sent ≤ d.size ∧
    (d.state = .delivered ∨ d.state = .plated → d.acked = d.size) ∧
    (d.state = .waiting ∨ d.state = .offered → d.sent = d.acked)

/-- A new segment being read for the bytes that its entry has next to send lies within the page (R150, R152). -/
def State.segmentsFit (s : State) : Prop :=
  ∀ r ∈ s.reads, ∀ g d, r.kind = .segment g → g.resend = false →
    s.named ⟨g.index, g.generation⟩ = some d → d.sent = g.offset → g.offset + g.length ≤ d.size

/-- No segment read's data waits for room in the posted-write queue. -/
def State.noDataWaits (s : State) : Prop := ∀ tag data, Waiter.command (.segmentReadDone tag data) ∉ s.waiting

/-- The board base is a multiple of 524,288 (R1). -/
def State.boardAligned (s : State) : Prop := s.base % 524288 = 0

/-- FAULT_PRESENT shows exactly in STALLED and HALTED (R23, R27, R28), outside RUNNING the buffer is empty
and no ticket is in execution (R5, R24, R26), and a stop waits for one ticket at most (R6). -/
def State.faultShown (s : State) : Prop :=
  (s.faultPresent = true ↔ s.part = .stalled ∨ s.part = .halted) ∧
    (s.part ≠ .running → s.buffer = [] ∧ s.execution = none) ∧
    (s.stopping = true → s.part = .running ∧ s.buffer.length ≤ 1)

/-- The commands that return the block to its reset state (R7). -/
def isReset : Instr → Bool
  | .powerOnReset _ => true
  | .softReset _ => true
  | _ => false

/-- No reset waits for room: one is always taken at once (log 4). -/
def State.noResetWaits (s : State) : Prop := ∀ c, Waiter.command c ∈ s.waiting → isReset c = false

/-- What HALTED keeps: the tables, the records, the windows, the planners and engines but for their timers, the
lanes but for their quiet timers and transmitters, the writer's indices, copies and counts, and the posted-write
queue, which only shortens (R29, R108, R155, R171, R186). -/
def State.haltKeeps (s t : State) : Prop :=
  t.part = .halted ∧ t.deliveries = s.deliveries ∧ t.targets = s.targets ∧ t.sites = s.sites ∧
    t.editions = s.editions ∧ t.windows = s.windows ∧ t.releaseCounter = s.releaseCounter ∧
    t.lastRetired = s.lastRetired ∧ t.writeIndex = s.writeIndex ∧ t.readIndex = s.readIndex ∧
    t.notesFull = s.notesFull ∧ t.freeze = s.freeze ∧ t.rewrites = s.rewrites ∧ t.base = s.base ∧
    (∀ i, t.planner i = { s.planner i with timer := (t.planner i).timer }) ∧
    (∀ i, t.engine i =
      { s.engine i with
        receiptTimer := (t.engine i).receiptTimer, probeTimer := (t.engine i).probeTimer }) ∧
    (∀ l, t.lane l =
      { s.lane l with
        quietTimer := (t.lane l).quietTimer, transmitter := (t.lane l).transmitter }) ∧
    (∃ n, t.queue = s.queue.drop n) ∧ t.handed = [] ∧ t.noResetWaits ∧ (s.waiting = [] → t.waiting = [])

/-- The commands at which the link takes writes off the posted-write queue. -/
def drains : Instr → Bool
  | .fenceDrained => true
  | .postedWriteQueueRoom => true
  | _ => false

end Sys2Proof.Machine
end

