-- ==== Sys2Proof/Certificates/Slice0/Obligations.lean ====
section
/-! DEFINITION. The statements for the provers. `thenGrants c s x` says that the command answers the state
that the grants of every lane that can grant leave of `x` (Safety.lean). -/

open Sys2Proof Sys2Proof.Machine

/-! ### The step, the resets and the registers -/

/-- One step takes the command at the front of the queue: the model's own frame (log 2). This is the model's
own frame and no rule of the spec. -/
def Obligations.StepTakesTheFrontCommand : Prop :=
  ∀ (c : Instr) (s : State), step { s with pending := c :: s.pending } = exec c s

/-- R7, R30, R33, R46, R51, R85, R110, R133, R156, R172: what a power-on reset leaves. That a power-on reset
forgets the reads in flight and the writes issued is the model's choice (log 15), as is that an event waiting
for room is dropped (log 4); the carriers are an operand (log 7), and STATUS and CONTROL read as 0 also in the
bits that no field takes (log 32). -/
def Obligations.PowerOnResetState : Prop :=
  ∀ (carriers : Vector Bool 4) (s : State), ∃ t, exec (.powerOnReset carriers) s = .next t ∧
    t.pending = s.pending ∧
    (t.part = .idle ∧ t.readControl = 0 ∧ t.readStatus = 0 ∧ t.boardLo = 0 ∧ t.boardHi = 0) ∧
    (t.queue = [] ∧ t.issued = [] ∧ t.waiting = [] ∧ t.handed = [] ∧ t.reads = []) ∧
    (t.buffer = [] ∧ t.execution = none ∧ t.stopping = false ∧ t.lastRetired = none ∧
      t.pollTimer = none ∧ t.pollInterval = 0 ∧ t.runTag = 0 ∧ t.rereadRequest = false) ∧
    (t.latch = none ∧ t.clock = 0 ∧ t.releaseCounter = 0) ∧
    (t.writeIndex = 0 ∧ t.readIndex = 0 ∧ t.heldNotes = [] ∧ t.roomReadInFlight = false ∧
      t.interruptOutstanding = false ∧ (∀ i, getAt t.freeze i = false) ∧
      (∀ i, getAt t.rewrites.delivery i = 0) ∧ (∀ i, getAt t.rewrites.site i = 0) ∧
      (∀ l, getAt t.rewrites.lane l = 0) ∧ ∀ n, getAt t.rewrites.target n = 0) ∧
    (∀ i, t.entry i = none ∧ (t.slot i).generation = 0) ∧
    (∀ n : Fin 16, (getAt t.windows n).valid = false) ∧ (∀ e, (t.edition e).defined = false) ∧
    (∀ i, let r := t.site i
      r.enabled = false ∧ r.lane = 0 ∧ r.station = 0 ∧ r.pace = 1000 ∧ r.window = 4 ∧
      r.receiptTimeout = 2000 ∧ r.probeInterval = 10000 ∧ r.margin = 14 ∧ r.hold = 3 ∧
      r.driftCompare = 8 ∧
      ∀ q : Fin 8, getAt r.offsets q = 0 ∧ getAt r.limits q = (0, if q.val < 4 then 3000 else 400)) ∧
    (∀ i, let p := t.planner i
      p.order = [] ∧ p.factor = 4096 ∧ p.drift = 0 ∧ p.measurement = none ∧ p.timer = none ∧
      p.expired = false) ∧
    (∀ i, let e := t.engine i
      e.state = .unset ∧ e.outstanding = [] ∧ e.withdrawQueue = [] ∧ e.probeOutstanding = false ∧
      e.probeResend = false ∧ e.probeDue = false ∧ e.helloDue = false ∧ e.helloCount = 0 ∧
      e.retry = 0 ∧ e.receiptTimer = none ∧ e.probeTimer = none ∧ e.lastReceipt = none) ∧
    (∀ e i, let x := t.target e i
      x.state = .none ∧ x.lastSent = none ∧ x.pending = none ∧ x.clamped = false ∧ x.number = 0 ∧
      x.deadline = none) ∧
    ∀ l, let x := t.lane l
      x.enable = false ∧ x.standby = none ∧ x.failover = false ∧ x.quietEnable = false ∧
      x.quietTime = 10 ∧ x.state = .off ∧ x.transmitter = .free ∧ x.quietTimer = none ∧
      x.cause = none ∧ x.carrier = getAt carriers l

/-- R7, R30: a soft reset leaves what a power-on reset leaves, but for the board base, the writes issued,
whose failures are not latched, and the reads in flight, which will be discarded. That the reads in flight
and the PCIe permission are kept, and that an event waiting for room is dropped, is the model's choice (logs
4, 9 and 15). -/
def Obligations.SoftResetState : Prop :=
  ∀ (carriers : Vector Bool 4) (s : State), ∃ t p, exec (.softReset carriers) s = .next t ∧
    exec (.powerOnReset carriers) s = .next p ∧
    t = { p with boardLo := s.boardLo, boardHi := s.boardHi, msiPermitted := s.msiPermitted,
                 issued := t.issued, reads := t.reads, nextTag := s.nextTag } ∧
    t.issued.map IssuedWrite.write = s.issued.map IssuedWrite.write ∧
    (∀ w ∈ t.issued, w.stale = true) ∧ t.reads.map Read.tag = s.reads.map Read.tag ∧
    (∀ r ∈ t.reads, r.live = false)

/-- R5: a start with no board base is refused, NO_BOARD set and RUN returned to 0. -/
def Obligations.StartWithoutBoardIsRefused : Prop :=
  ∀ (h : Bool) (s : State), s.ready → s.part = .idle → s.run = false → s.base = 0 →
    thenGrants (.runStart h) s { s with faultHalt := h, run := false, noBoard := true }

/-- R2, R5, R6, R9, R11, R21, R23, R26, R173: the start enters RUNNING, places the start refresh, starts the poll timer
at the interval held, and reads the run tag, the poll interval and the chain entry address, or re-reads the
link of the last retired ticket; a ticket that is no longer admitted faults with LINK_WINDOW and its address;
RUN written 1 outside IDLE, or while RUN is 1, is only stored. The order of the three reads, and their tags, are
the model's choice (logs 3 and 27), and so is how many writes a note, a rewrite and the fault block make (log
11). -/
def Obligations.StartEntersRunning : Prop :=
  ∀ (h : Bool) (s : State), s.ready →
    (s.part = .idle → s.run = false → s.base ≠ 0 → s.beginsAdmitted →
      thenGrants (.runStart h) s { s with faultHalt := h, run := true }.started) ∧
    (∀ p, s.part = .idle → s.run = false → s.base ≠ 0 → s.lastRetired = some p →
      s.ticketAdmitted p.address = false → s.buffer = [] → s.execution = none → s.faultPresent = false →
      ∃ t, exec (.runStart h) s = .next t ∧
        { s with faultHalt := h, run := true }.starting.faultRecorded t .linkWindow p.address 0) ∧
    (s.part ≠ .idle ∨ s.run = true →
      exec (.runStart h) s = .next { s with faultHalt := h, run := true })

/-- R2, R6: RUN written 0. In RUNNING the reader stops, its buffer discarded but for a ticket in execution,
and the part is IDLE at once when there is none; elsewhere the bit is stored. That the read of the chain
entry address is abandoned with the ticket and link reads is the model's inference (log 12). -/
def Obligations.RunStopStopsTheReader : Prop :=
  ∀ (h : Bool) (s : State), s.ready →
    (s.run = true → s.part = .running → s.execution = none →
      exec (.runStop h) s = .next
        { s.abandonChainReads with
          faultHalt := h, run := false, part := .idle, stopping := false, buffer := [],
          reader := .stopped, rereadRequest := false, pollTimer := none }) ∧
    (s.run = true → s.part = .running → s.execution ≠ none →
      exec (.runStop h) s = .next
        { s.abandonChainReads with
          faultHalt := h, run := false, stopping := true, buffer := s.buffer.take 1,
          reader := .stopped, rereadRequest := false, pollTimer := none }) ∧
    (s.run = false ∨ s.part ≠ .running →
      exec (.runStop h) s = .next { s with faultHalt := h, run := false })

/-- R1, R2, R3, R8: FAULT_HALT is stored, the board base is replaced in IDLE alone with its low 19 bits
zero, and a write of STATUS or CLOCK changes nothing; what a read of each register shows in every state: the
part state and the four flags in STATUS, RUN and FAULT_HALT in CONTROL, now in CLOCK, 0 in NUDGE. That the
bits of STATUS and CONTROL that no field takes read as 0 is the model's choice (log 32). -/
def Obligations.RegisterWrites : Prop :=
  (∀ (s : State), s.ready →
    (∀ h, exec (.faultHaltWrite h) s = .next { s with faultHalt := h }) ∧
    (∀ r v, exec (.ignoredRegisterWrite r v) s = .next s) ∧
    (s.part = .idle → ∀ v, ∃ t, exec (.boardLoWrite v) s = .next t ∧
      t = { s with boardLo := t.boardLo } ∧ t.boardLo.toNat = v.toNat / 524288 * 524288) ∧
    (s.part = .idle → ∀ v, exec (.boardHiWrite v) s = .next { s with boardHi := v }) ∧
    (s.part ≠ .idle → ∀ v, exec (.boardLoWrite v) s = .next s ∧ exec (.boardHiWrite v) s = .next s)) ∧
  ∀ (s : State),
    (let part : Nat :=
      match s.part with
      | .idle => 0
      | .running => 1
      | .stalled => 2
      | .halted => 3
     s.readStatus.toNat % 16 = part ∧ s.readStatus.toNat < 256) ∧
    s.readStatus.getLsbD 4 = s.noBoard ∧ s.readStatus.getLsbD 5 = s.faultPresent ∧
    s.readStatus.getLsbD 6 = s.latch.isSome ∧ s.readStatus.getLsbD 7 = s.notesFull ∧
    s.readControl.getLsbD 0 = s.run ∧ s.readControl.getLsbD 1 = s.faultHalt ∧
    s.readControl.toNat < 4 ∧ s.readClock.toNat = s.clock % 4294967296 ∧
    s.readBoardLo = s.boardLo ∧ s.readBoardHi = s.boardHi ∧ s.readNudge = 0

/-- R8, R11, R21, R23: a NUDGE clears interrupt-outstanding; with a base and not HALTED it reads the four header
fields, in RUNNING and STALLED restarts the poll timer, and in RUNNING re-reads the link the reader waits
on, or holds the request while a read of that link is in flight. A ticket that is no longer admitted is not
re-read: a LINK_WINDOW placeholder carries its address, which faults at once in an empty buffer. The order of
the four reads, and their tags, are the model's choice (logs 3 and 27), and so is how many writes a note and
the fault block make (log 11); that the request is held also during the first read of the chain entry address
and the re-read of a start is its inference (log 16), as is that a part that stops leaves its poll timer stopped
(log 14). -/
def Obligations.NudgeReadsTheHeader : Prop :=
  ∀ (v : Reg) (s : State), s.ready →
    let four : List Read :=
      [{ tag := s.nextTag, kind := .pollInterval, address := s.base + 0x008, live := true },
       { tag := s.nextTag + 1, kind := .readIndex false, address := s.base + 0x018, live := true },
       { tag := s.nextTag + 2, kind := .freeze, address := s.base + 0x020, live := true },
       { tag := s.nextTag + 3, kind := .faultPresent, address := s.base + 0x060, live := true }]
    let poll : Timer := if s.pollInterval = 0 then none else some s.pollInterval
    let read : State :=
      { s with interruptOutstanding := false, reads := s.reads ++ four, nextTag := s.nextTag + 4 }
    let readsEntry : Prop := ∃ r ∈ s.reads, r.live = true ∧ r.kind = .chainEntry
    let again (kind : ReadKind) (address : Nat) : State :=
      { read with
        pollTimer := poll, reader := .rereading, nextTag := s.nextTag + 5,
        reads := s.reads ++ four ++
          [{ tag := s.nextTag + 4, kind := kind, address := address, live := true }] }
    (s.part = .halted ∨ s.base = 0 →
      exec (.nudge v) s = .next { s with interruptOutstanding := false }) ∧
    (s.part = .idle ∨ s.part = .running ∧ s.stopping = true → s.base ≠ 0 → thenGrants (.nudge v) s read) ∧
    (s.part = .stalled → s.base ≠ 0 → thenGrants (.nudge v) s { read with pollTimer := poll }) ∧
    (s.part = .running → s.stopping = false → s.base ≠ 0 →
      (s.reader = .waiting →
        (∀ front tk, s.buffer = front ++ [.ticket tk] → s.ticketAdmitted tk.address = true →
          thenGrants (.nudge v) s (again .link tk.address)) ∧
        (∀ p, s.buffer = [] → s.lastRetired = some p → s.ticketAdmitted p.address = true →
          thenGrants (.nudge v) s (again .link p.address)) ∧
        (s.buffer = [] → s.lastRetired = none →
          thenGrants (.nudge v) s (again .entryReread (s.base + 0x000))) ∧
        (∀ front tk, s.buffer = front ++ [.ticket tk] → s.ticketAdmitted tk.address = false →
          s.execution ≠ none →
          thenGrants (.nudge v) s
            { read with
              pollTimer := poll, buffer := s.buffer ++ [.placeholder .linkWindow tk.address],
              reader := .blocked, rereadRequest := false }) ∧
        ∀ p, s.buffer = [] → s.lastRetired = some p → s.ticketAdmitted p.address = false →
          s.execution = none → s.faultPresent = false →
          ∃ t, exec (.nudge v) s = .next t ∧ read.faultRecorded t .linkWindow p.address 0 ∧
            ∀ r ∈ four, r ∈ t.reads) ∧
      (s.reader = .rereading ∨ s.reader = .fetching ∧ readsEntry →
        thenGrants (.nudge v) s { read with pollTimer := poll, rereadRequest := true }) ∧
      (s.reader = .fetching ∧ ¬ readsEntry ∨ s.reader = .full ∨ s.reader = .blocked →
        thenGrants (.nudge v) s { read with pollTimer := poll }))

/-! ### Reads of the header and the chain -/

/-- R5, R6, R7, R11, R24, R29: the run tag and the poll interval arrive; a read that was abandoned, or that
returns in HALTED, is discarded, whatever it reads. The tag names the read (log 3). That while a stop waits
for its ticket a stopped poll timer is not started is the model's inference (log 14), as is that the read of
the chain entry address is among those a stop or a fault abandons (log 12). -/
def Obligations.RunTagAndPollIntervalArrive : Prop :=
  ∀ (tag : Nat) (v : Reg) (r : Read) (s : State), s.ready →
    (s.findRead tag ReadKind.isRunTag = some r → r.live = true → s.part ≠ .halted →
      thenGrants (.runTagReadDone tag v) s { s.removeRead tag with runTag := v }) ∧
    (s.findRead tag ReadKind.isPollInterval = some r → r.live = true → s.part ≠ .halted →
      thenGrants (.pollIntervalReadDone tag v) s
        { s.removeRead tag with
          pollInterval := min v.toNat 1000,
          pollTimer :=
            if s.pollRuns = true ∧ s.pollTimer = none ∧ v.toNat ≠ 0 then some (min v.toNat 1000)
            else s.pollTimer }) ∧
    ∀ (v8 : Byte) (v64 : BitVec 64) (link : Option (BitVec 64)) (bytes : List Byte)
      (ticket : Option (List Byte)) (c : Instr) (kind : ReadKind → Bool),
      (c, kind) ∈
        [(.runTagReadDone tag v, ReadKind.isRunTag),
         (.pollIntervalReadDone tag v, ReadKind.isPollInterval),
         (.chainEntryReadDone tag v64, ReadKind.isChainEntry),
         (.ticketReadDone tag ticket, ReadKind.isTicket),
         (.linkRereadDone tag link, ReadKind.isReread),
         (.faultPresentReadDone tag v8, ReadKind.isFaultPresent),
         (.freezeReadDone tag bytes, ReadKind.isFreeze), (.roomReadDone tag v, ReadKind.isReadIndex),
         (.headerReadError tag, ReadKind.isHeader), (.segmentReadDone tag bytes, ReadKind.isSegment),
         (.segmentReadError tag, ReadKind.isSegment)] →
      s.findRead tag kind = some r → r.live = false ∨ s.part = .halted →
      exec c s = .next (s.removeRead tag)

/-- R8, R9, R10, R11, R23: the chain entry address arrives: zero leaves the reader waiting, or brings the
held re-read, an admitted link is read, a link not admitted faults at once when the buffer is empty. The tag
of the new read is the model's choice (log 3), as is how many writes a note and the fault block make (log 11),
and that a request held meanwhile is answered as R8 gives is its inference (log 16). -/
def Obligations.ChainEntryArrives : Prop :=
  ∀ (tag : Nat) (v : BitVec 64) (r : Read) (s : State), s.ready →
    s.findRead tag ReadKind.isChainEntry = some r → r.live = true → s.part = .running →
    s.stopping = false → s.buffer = [] → s.execution = none →
    let reading (phase : ReaderPhase) (kind : ReadKind) (address : Nat) : State :=
      { s.removeRead tag with
        reader := phase, rereadRequest := false, nextTag := s.nextTag + 1,
        reads := (s.removeRead tag).reads ++
          [{ tag := s.nextTag, kind := kind, address := address, live := true }] }
    (v = 0 → s.rereadRequest = false →
      thenGrants (.chainEntryReadDone tag v) s { s.removeRead tag with reader := .waiting }) ∧
    (v = 0 → s.rereadRequest = true → s.lastRetired = none →
      thenGrants (.chainEntryReadDone tag v) s (reading .rereading .entryReread (s.base + 0x000))) ∧
    (v ≠ 0 → v.toNat % 128 = 0 → s.ticketAdmitted v.toNat = true →
      thenGrants (.chainEntryReadDone tag v) s (reading .fetching .ticket v.toNat)) ∧
    (v ≠ 0 → v.toNat % 128 ≠ 0 ∨ s.ticketAdmitted v.toNat = false → s.faultPresent = false →
      ∃ t, exec (.chainEntryReadDone tag v) s = .next t ∧ s.faultRecorded t .linkWindow v.toNat 0)

/-- R9, R10, R11, R12, R15, R23: the ticket that a read brings joins the buffer, and into an empty one, posted
and in sequence, execution; its link is then followed while the buffer holds fewer than four, a link not
admitted leaving a placeholder. Alone in the buffer a ticket not posted or out of sequence, and a bus error,
fault at once; behind another ticket a bus error leaves a placeholder. The tag of the new read is the
model's choice (log 3), as is how many writes a note and the fault block make (log 11). -/
def Obligations.TicketArrives : Prop :=
  ∀ (tag : Nat) (b : List Byte) (r : Read) (s : State), s.ready →
    s.findRead tag ReadKind.isTicket = some r → r.live = true → s.part = .running →
    s.stopping = false → s.reader = .fetching →
    let tk := Ticket.ofBytes r.address b
    let fits := ∀ p, s.lastRetired = some p → tk.sequence = (p.sequence + 1) % 4294967296
    let joined : State :=
      { s.removeRead tag with
        buffer := s.buffer ++ [.ticket tk],
        execution := if s.buffer = [] then some .handed else s.execution }
    ((s.buffer = [] → s.execution = none ∧ tk.posting = 0x5A ∧ fits) →
      (s.buffer ≠ [] → s.execution ≠ none) →
      (tk.link = 0 → thenGrants (.ticketReadDone tag (some b)) s { joined with reader := .waiting }) ∧
      (tk.link ≠ 0 → 3 ≤ s.buffer.length →
        thenGrants (.ticketReadDone tag (some b)) s { joined with reader := .full }) ∧
      (tk.link ≠ 0 → s.buffer.length < 3 → tk.link % 128 = 0 → s.ticketAdmitted tk.link = true →
        thenGrants (.ticketReadDone tag (some b)) s
          { joined with
            reader := .fetching, nextTag := s.nextTag + 1,
            reads := (s.removeRead tag).reads ++
              [{ tag := s.nextTag, kind := .ticket, address := tk.link, live := true }] }) ∧
      (tk.link ≠ 0 → s.buffer.length < 3 → tk.link % 128 ≠ 0 ∨ s.ticketAdmitted tk.link = false →
        thenGrants (.ticketReadDone tag (some b)) s
          { joined with
            buffer := s.buffer ++ [.ticket tk, .placeholder .linkWindow tk.link], reader := .blocked,
            rereadRequest := false })) ∧
    (s.buffer ≠ [] → s.execution ≠ none →
      thenGrants (.ticketReadDone tag none) s
        { s.removeRead tag with
          buffer := s.buffer ++ [.placeholder .ticketRead r.address], reader := .blocked,
          rereadRequest := false }) ∧
    (s.buffer = [] → s.execution = none → s.faultPresent = false →
      (tk.posting ≠ 0x5A ∨ ¬ fits →
        ∃ t, exec (.ticketReadDone tag (some b)) s = .next t ∧ t.lastRetired = s.lastRetired ∧
          s.faultRecorded t (if tk.posting = 0x5A then .sequence else .notPosted) r.address
            tk.sequence) ∧
      ∃ t, exec (.ticketReadDone tag none) s = .next t ∧ s.faultRecorded t .ticketRead r.address 0)

/-- R8, R9, R10, R11, R17, R20, R21, R23, R25: a re-read of a link returns, that of the newest ticket
buffered, of the last retired ticket, or the chain entry address: zero leaves the reader waiting or brings
the held re-read; an admitted link is recorded and read, if the buffer has room; a link not admitted, a ticket
that is no longer admitted for its held re-read, and a bus error leave a placeholder behind the tickets
buffered, and fault with the buffer empty. The tag of the new read is the model's choice (log 3), as is how many
writes a note and the fault block make (log 11), and that a bus error on a ticket's link is TICKET_READ its
inference (log 6). -/
def Obligations.LinkRereadReturns : Prop :=
  ∀ (tag : Nat) (v : BitVec 64) (r : Read) (s : State), s.ready →
    s.findRead tag ReadKind.isReread = some r → r.live = true → s.part = .running →
    s.stopping = false →
    let reading (phase : ReaderPhase) (kind : ReadKind) (address : Nat) : State :=
      { s.removeRead tag with
        rereadRequest := false, reader := phase, nextTag := s.nextTag + 1,
        reads := (s.removeRead tag).reads ++
          [{ tag := s.nextTag, kind := kind, address := address, live := true }] }
    let faults (data : Option (BitVec 64)) (kind : FaultKind) (address : Nat) : Prop :=
      ∃ t, exec (.linkRereadDone tag data) s = .next t ∧ s.faultRecorded t kind address 0
    (v = 0 → s.rereadRequest = false →
      thenGrants (.linkRereadDone tag (some v)) s { s.removeRead tag with reader := .waiting }) ∧
    (∀ p, s.buffer = [] → s.lastRetired = some p →
      (v = 0 → s.rereadRequest = true → s.ticketAdmitted p.address = true →
        thenGrants (.linkRereadDone tag (some v)) s (reading .rereading .link p.address)) ∧
      (v ≠ 0 → v.toNat % 128 = 0 → s.ticketAdmitted v.toNat = true →
        thenGrants (.linkRereadDone tag (some v)) s
          { reading .fetching .ticket v.toNat with lastRetired := some { p with link := v.toNat } })) ∧
    (s.buffer = [] → s.lastRetired = none →
      (v = 0 → s.rereadRequest = true →
        thenGrants (.linkRereadDone tag (some v)) s (reading .rereading .entryReread (s.base + 0x000))) ∧
      (v ≠ 0 → v.toNat % 128 = 0 → s.ticketAdmitted v.toNat = true →
        thenGrants (.linkRereadDone tag (some v)) s (reading .fetching .ticket v.toNat))) ∧
    (∀ front tk, s.buffer = front ++ [.ticket tk] →
      let found : List BufferItem := front ++ [.ticket { tk with link := v.toNat }]
      (v = 0 → s.rereadRequest = true → s.ticketAdmitted tk.address = true →
        thenGrants (.linkRereadDone tag (some v)) s (reading .rereading .link tk.address)) ∧
      (v ≠ 0 → front.length < 3 → v.toNat % 128 = 0 → s.ticketAdmitted v.toNat = true →
        thenGrants (.linkRereadDone tag (some v)) s
          { reading .fetching .ticket v.toNat with buffer := found }) ∧
      (v ≠ 0 → 3 ≤ front.length →
        thenGrants (.linkRereadDone tag (some v)) s
          { s.removeRead tag with rereadRequest := false, reader := .full, buffer := found }) ∧
      (s.execution ≠ none →
        let blocks (data : Option (BitVec 64)) (buffer : List BufferItem) (kind : FaultKind)
            (address : Nat) : Prop :=
          thenGrants (.linkRereadDone tag data) s
            { s.removeRead tag with
              rereadRequest := false, reader := .blocked,
              buffer := buffer ++ [.placeholder kind address] }
        (v = 0 → s.rereadRequest = true → s.ticketAdmitted tk.address = false →
          blocks (some v) s.buffer .linkWindow tk.address) ∧
        (v ≠ 0 → front.length < 3 → v.toNat % 128 ≠ 0 ∨ s.ticketAdmitted v.toNat = false →
          blocks (some v) found .linkWindow v.toNat) ∧
        (r.kind = .link → blocks none s.buffer .ticketRead r.address))) ∧
    (s.buffer = [] → s.execution = none → s.faultPresent = false →
      (v ≠ 0 → v.toNat % 128 ≠ 0 ∨ s.ticketAdmitted v.toNat = false →
        faults (some v) .linkWindow v.toNat) ∧
      (∀ p, v = 0 → s.rereadRequest = true → s.lastRetired = some p →
        s.ticketAdmitted p.address = false → faults (some v) .linkWindow p.address) ∧
      (r.kind = .link → faults none .ticketRead r.address) ∧
      (r.kind = .entryReread → faults none .boardRead r.address))

/-- R9, R21, R23, R27: a fault-present byte of 0 takes the part out of STALLED: to IDLE with RUN 0; with RUN 1 after a
stall in RUNNING to RUNNING, and after one in IDLE through a start, refused with no board base; a byte that
is not 0, or one read outside STALLED, has no effect. A last retired ticket that is no longer admitted faults
with LINK_WINDOW and its address as the reader begins. That any read of the byte that returns in STALLED counts
is the model's inference (log 13), and the order and tags of the reads of a start, and how many writes a note, a
rewrite and the fault block make, are its choice (logs 3, 11 and 27). -/
def Obligations.FaultPresentReadLeavesStalled : Prop :=
  ∀ (tag : Nat) (v : Byte) (r : Read) (s : State), s.ready →
    s.findRead tag ReadKind.isFaultPresent = some r → r.live = true → s.part ≠ .halted →
    let clear : State := { s.removeRead tag with faultPresent := false, stallOrigin := none }
    (s.part = .stalled → v = 0 → s.run = false →
      thenGrants (.faultPresentReadDone tag v) s { clear with part := .idle, pollTimer := none }) ∧
    (s.part = .stalled → v = 0 → s.run = true → s.stallOrigin = some .running → s.beginsAdmitted →
      thenGrants (.faultPresentReadDone tag v) s
        { clear with
          part := .running,
          pollTimer := if s.pollInterval = 0 then none else some s.pollInterval }.begun) ∧
    (s.part = .stalled → v = 0 → s.run = true → s.stallOrigin = some .idle → s.base ≠ 0 →
      s.beginsAdmitted → thenGrants (.faultPresentReadDone tag v) s clear.started) ∧
    (∀ p, s.part = .stalled → v = 0 → s.run = true → s.lastRetired = some p →
      s.ticketAdmitted p.address = false → s.buffer = [] → s.execution = none → s.stopping = false →
      (s.stallOrigin = some .running →
        ∃ t, exec (.faultPresentReadDone tag v) s = .next t ∧
          clear.faultRecorded t .linkWindow p.address 0) ∧
      (s.stallOrigin = some .idle → s.base ≠ 0 →
        ∃ t, exec (.faultPresentReadDone tag v) s = .next t ∧
          clear.starting.faultRecorded t .linkWindow p.address 0)) ∧
    (s.part = .stalled → v = 0 → s.run = true → s.stallOrigin = some .idle → s.base = 0 →
      thenGrants (.faultPresentReadDone tag v) s
        { clear with part := .idle, pollTimer := none, run := false, noBoard := true }) ∧
    (s.part ≠ .stalled ∨ v ≠ 0 → thenGrants (.faultPresentReadDone tag v) s (s.removeRead tag))

/-- R184: each freeze copy flag takes its byte's request, and the freeze echo is placed with the new
copy. -/
def Obligations.FreezeReadSetsTheCopy : Prop :=
  ∀ (tag : Nat) (b : List Byte) (r : Read) (s : State), s.ready →
    s.findRead tag ReadKind.isFreeze = some r → r.live = true → s.part ≠ .halted → s.base ≠ 0 →
    ∃ f : Vector Bool 16, (∀ i : Fin 16, getAt f i = decide (b.getD i.val 0 ≠ 0)) ∧
      thenGrants (.freezeReadDone tag b) s
        { s.removeRead tag with
          freeze := f, queue := s.queue ++ [s.boardWrite 0x030 (freezeBytes f)] }

/-- R175, R176, R177, R178, R179: the note read index returns: the cached index takes it, and with room
NOTES_FULL is cleared; the held notes are written from the front while there is room, each with the write
index after it and an MSI after the first if interrupt-outstanding is clear; any left over are lost, and
NOTES_FULL is set again. How many writes a note makes is the model's choice (log 11), and whether the MSI is
permitted is log 9. -/
def Obligations.RoomReadReturns : Prop :=
  ∀ (tag : Nat) (v : Reg) (r : Read) (s : State), s.ready →
    s.findRead tag ReadKind.isReadIndex = some r → r.live = true → s.part ≠ .halted → s.base ≠ 0 →
    let s1 : State :=
      { s.removeRead tag with
        readIndex := v.toNat,
        roomReadInFlight := if r.kind = .readIndex true then false else s.roomReadInFlight }
    let w := s.writeIndex
    let written := min s.heldNotes.length (256 - s1.noteCount)
    let lost : Prop := written < s.heldNotes.length
    let writes (n : Note) (k : Nat) : List PostedWrite :=
      [s.boardWrite (0x3000 + 32 * ((w + k) % 256)) (noteBytes n),
       s.boardWrite 0x014 (le 4 ((w + k + 1) % 4294967296))] ++
      if k = 0 ∧ s.interruptOutstanding = false ∧ s.msiPermitted = true then [.msi] else []
    thenGrants (.roomReadDone tag v) s
      { s1 with
        heldNotes := [],
        notesFull := decide lost || (s.notesFull && decide (256 ≤ s1.noteCount)),
        writeIndex := if written = 0 then w else (w + written) % 4294967296,
        interruptOutstanding := s.interruptOutstanding || decide (0 < written),
        queue := s.queue ++
          (if s.notesFull = true ∧ s1.noteCount < 256 then [s.boardWrite 0x01C [0]] else []) ++
          ((s.heldNotes.take written).zipIdx.flatMap fun p => writes p.1 p.2) ++
          (if lost ∧ (s.notesFull = false ∨ s1.noteCount < 256) then [s.boardWrite 0x01C [1]]
           else []) }

/-- R11, R23, R25, R26, R173 to R177: the first board read fault is recorded: fault present, the state
FAULT_HALT chooses, the stall origin, the CHAIN_FAULT note as the ring takes it, the fault block and last the
fault-present byte; in STALLED the poll timer runs while the interval held is not 0; after a room read the held
notes are lost and NOTES_FULL is set. How many writes a note and the fault block make is the model's choice (log
11). That a poll timer that was stopped starts at the
interval held is its inference (log 29), how NOTES_FULL is set after a room read is log 19, and what is
recorded with the base zero is log 34. -/
def Obligations.BoardReadFaultIsRecorded : Prop :=
  ∀ (tag : Nat) (r : Read) (s : State), s.ready →
    s.findRead tag ReadKind.isHeader = some r → r.live = true →
    s.part = .idle ∨ s.part = .running → s.faultPresent = false →
    ∃ t after, exec (.headerReadError tag) s = .next t ∧ t.faultPresent = true ∧
      t.part = (if s.faultHalt then .halted else .stalled) ∧
      t.stallOrigin = some (if s.part = .idle then .idle else .running) ∧ t.buffer = [] ∧
      t.execution = none ∧ t.rereadRequest = false ∧ t.lastRetired = s.lastRetired ∧
      t.latch = s.latch ∧
      (s.faultHalt = false →
        t.pollTimer =
          if s.pollTimer = none ∧ s.pollInterval ≠ 0 then some s.pollInterval else s.pollTimer) ∧
      (r.kind = .readIndex true → t.heldNotes = [] ∧ t.notesFull = true) ∧
      t.queue = s.queue ++ s.faultWrites .boardRead r.address 0 ++ after

/-- R28: a board read fault while fault present is set halts the part and writes nothing; after a room read
the held notes are lost and NOTES_FULL is set. That NOTES_FULL is set with no write after a room read that
halts the part is the model's inference (log 19). -/
def Obligations.SecondFaultHalts : Prop :=
  ∀ (tag : Nat) (r : Read) (s : State), s.ready →
    s.findRead tag ReadKind.isHeader = some r → r.live = true → s.part ≠ .halted →
    s.faultPresent = true →
    ∃ t, exec (.headerReadError tag) s = .next t ∧ t.part = .halted ∧ t.faultPresent = true ∧
      t.queue = s.queue ∧ t.buffer = [] ∧ t.reader = .stopped ∧ t.latch = s.latch ∧
      t.deliveries = s.deliveries ∧ t.targets = s.targets ∧ t.writeIndex = s.writeIndex ∧
      (r.kind = .readIndex true → t.heldNotes = [] ∧ t.notesFull = true)

/-- R8, R11, R21, R23, R26, R184: the chain poll timer's expiry restarts it, reads the poll interval and the
freeze bytes, and re-reads the link the reader waits on, or holds the request while a read of that link is in
flight; a ticket that is no longer admitted leaves a LINK_WINDOW placeholder with its address, which faults at
once in an empty buffer. The tags and the order of the two reads are the model's choice (logs 3 and 27), and so
are how many writes a note and the fault block make (log 11) and that a STALLED part with the base zero reads
all the same (log 34); that the request of an expiry is held as a NUDGE's is its inference (logs 16 and 29), and
that an expiry before the timer has run out changes nothing is log 1. -/
def Obligations.ChainPollExpiry : Prop :=
  ∀ (s : State), s.ready →
    let two : List Read :=
      [{ tag := s.nextTag, kind := .pollInterval, address := s.base + 0x008, live := true },
       { tag := s.nextTag + 1, kind := .freeze, address := s.base + 0x020, live := true }]
    let read : State :=
      { s with
        pollTimer := if s.pollInterval = 0 then none else some s.pollInterval,
        reads := s.reads ++ two, nextTag := s.nextTag + 2 }
    let readsEntry : Prop := ∃ r ∈ s.reads, r.live = true ∧ r.kind = .chainEntry
    let again (kind : ReadKind) (address : Nat) : State :=
      { read with
        reader := .rereading, nextTag := s.nextTag + 3,
        reads := s.reads ++ two ++
          [{ tag := s.nextTag + 2, kind := kind, address := address, live := true }] }
    (s.pollTimer = some 0 → s.part = .stalled → thenGrants .chainPollTimerExpiry s read) ∧
    (s.pollTimer = some 0 → s.part = .running → s.stopping = false →
      (s.reader = .waiting →
        (∀ front tk, s.buffer = front ++ [.ticket tk] → s.ticketAdmitted tk.address = true →
          thenGrants .chainPollTimerExpiry s (again .link tk.address)) ∧
        (∀ p, s.buffer = [] → s.lastRetired = some p → s.ticketAdmitted p.address = true →
          thenGrants .chainPollTimerExpiry s (again .link p.address)) ∧
        (s.buffer = [] → s.lastRetired = none →
          thenGrants .chainPollTimerExpiry s (again .entryReread (s.base + 0x000))) ∧
        (∀ front tk, s.buffer = front ++ [.ticket tk] → s.ticketAdmitted tk.address = false →
          s.execution ≠ none →
          thenGrants .chainPollTimerExpiry s
            { read with
              buffer := s.buffer ++ [.placeholder .linkWindow tk.address], reader := .blocked,
              rereadRequest := false }) ∧
        ∀ p, s.buffer = [] → s.lastRetired = some p → s.ticketAdmitted p.address = false →
          s.execution = none → s.faultPresent = false →
          ∃ t, exec .chainPollTimerExpiry s = .next t ∧ s.faultRecorded t .linkWindow p.address 0 ∧
            ∀ r ∈ two, r ∈ t.reads) ∧
      (s.reader = .rereading ∨ s.reader = .fetching ∧ readsEntry →
        thenGrants .chainPollTimerExpiry s { read with rereadRequest := true }) ∧
      (s.reader = .fetching ∧ ¬ readsEntry ∨ s.reader = .full ∨ s.reader = .blocked →
        thenGrants .chainPollTimerExpiry s read)) ∧
    (s.pollTimer ≠ some 0 → exec .chainPollTimerExpiry s = .next s)

/-! ### Tickets -/

/-- R19: a WINDOW ticket sets an entry, clears one, or is refused, with its two result words. -/
def Obligations.WindowTicket : Prop :=
  ∀ (tk : Ticket) (s : State), s.ready → s.alone tk → tk.kind = 0x01 →
    let n := field tk.body 0x00 1
    let action := field tk.body 0x01 1
    let kind := field tk.body 0x02 1
    let base := field tk.body 0x08 8
    let granules := field tk.body 0x10 4
    let taken (i : Fin 16) (w : Window) : State × Result :=
      let ws := putAt s.windows i w
      ({ s with windows := ws },
       ⟨.ok, 0, if (getAt s.windows i).valid then 1 else 0, (ws.toList.filter Window.valid).length⟩)
    (∀ h : n < 16, ∀ k, action = 1 → (kind = 1 ∧ k = WindowKind.ticket ∨ kind = 2 ∧ k = .data) →
      base % 4096 = 0 → 1 ≤ granules → granules ≤ 65536 → base + granules * 4096 ≤ 2 ^ 64 →
      let r := taken ⟨n, h⟩ { valid := true, kind := k, base := base, granules := granules }
      thenGrants .window s (r.1.retired tk r.2)) ∧
    (∀ h : n < 16, action = 2 →
      ∃ w, w.valid = false ∧
        let r := taken ⟨n, h⟩ w
        thenGrants .window s (r.1.retired tk r.2)) ∧
    ((action ≠ 1 ∧ action ≠ 2) ∨ 15 < n ∨
        (action = 1 ∧ ((kind ≠ 1 ∧ kind ≠ 2) ∨ base % 4096 ≠ 0 ∨ granules = 0 ∨ 65536 < granules ∨
          2 ^ 64 < base + granules * 4096)) →
      thenGrants .window s (s.retired tk ⟨.badField, 0, 0, 0⟩))

/-- R15, R31: a FENCE waits for the writes placed and not completed, and at its outcome retires OK, or
WRITE_FAULT with the latch's first failure, the latch emptied. That FENCE_DRAINED completes every write the
FENCE waits for at once is the model's choice (log 2), and that the set of writes is fixed by the FENCE
command is its inference (log 24). What follows the retirement is said by EveryTicketRetires. -/
def Obligations.FenceTicket : Prop :=
  ∀ (tk : Ticket) (s : State), s.ready → s.part = .running → s.stopping = false →
    s.buffer = [.ticket tk] → s.reader = .waiting →
    let result : Result :=
      match s.latch with
      | none => ⟨.ok, 0, 0, 0⟩
      | some f => ⟨.writeFault, 0, areaCode f.offset + (if f.more then 2 ^ 31 else 0), f.offset⟩
    (s.execution = some .handed → tk.kind = 0x02 → s.issued.length + s.queue.length ≠ 0 →
      exec .fence s =
        .next { s with execution := some (.fence (s.issued.length + s.queue.length)) }) ∧
    (s.execution = some .handed → tk.kind = 0x02 → s.issued.length + s.queue.length = 0 →
      thenGrants .fence s ({ s with latch := none }.retired tk result)) ∧
    (∀ n, s.execution = some (.fence n) →
      thenGrants .fenceDrained s
        ({ s with issued := s.issued.drop n, queue := s.queue.drop (n - s.issued.length),
                  latch := none }.retired tk result))

/-- R4, R34 to R41, R43, R44, R85, R134, R138, R139, R183: an accepted SITE ticket replaces the record as
clamped, with its mask, and enables, disables or moves its site; a changed pace makes the site replan; a
ticket that asks for neither brings no event to wait, and one for a site disabled before and after shows a
changed lane or station. The request of an enabling that finds the posted-write queue full waits. That
disabling and moving keep the time of the last RECEIPT is the model's inference (log 17), that a disabled
site's change is shown in the ticket's event log 28, and that a ticket makes one request at most, or none where
it asks for nothing, log 18; that the waiting request is the engine's and the planner's (log 4), and how many
writes a rewrite and a retirement make (log 11), are its choice. -/
def Obligations.SiteTicket : Prop :=
  ∀ (tk : Ticket) (i : Fin 16) (l : Fin 4) (s : State), s.ready → s.alone tk → tk.kind = 0x03 →
    let b := SiteBody.parse tk.body
    let reach (q : Fin 8) : Int := if q.val < 4 then 500 else 100
    let top (q : Fin 8) : Nat := if q.val < 4 then 3000 else 400
    let r : SiteRecord :=
      { enabled := b.enabled, lane := l, station := b.station, pace := max 1 (min 60000 b.pace),
        window := max 1 (min 8 b.window), receiptTimeout := max 100 (min 60000 b.receiptTimeout),
        probeInterval := max 1000 (min 60000 b.probeInterval), margin := max 0 (min 20 b.margin),
        hold := max 0 (min 9 b.hold), driftCompare := max 1 (min 63 b.driftCompare),
        offsets := Vector.ofFn fun q => max (-reach q) (min (reach q) (getAt b.offsets q)),
        limits := Vector.ofFn fun q =>
          (max 0 (min (top q) (getAt b.limits q).1), max 0 (min (top q) (getAt b.limits q).2)) }
    let mask : Nat :=
      (if b.pace = r.pace then 0 else 2 ^ 0) + (if b.window = r.window then 0 else 2 ^ 1) +
        (if b.receiptTimeout = r.receiptTimeout then 0 else 2 ^ 2) +
        (if b.probeInterval = r.probeInterval then 0 else 2 ^ 3) +
        (if b.margin = r.margin then 0 else 2 ^ 4) + (if b.hold = r.hold then 0 else 2 ^ 5) +
        (if b.driftCompare = r.driftCompare then 0 else 2 ^ 6) +
        (if b.offsets = r.offsets then 0 else 2 ^ 7) + (if b.limits = r.limits then 0 else 2 ^ 8)
    let old := s.site i
    let stays : Prop := r.lane = old.lane ∧ r.station = old.station
    let result : Result := ⟨.ok, mask, s.siteEntryCount i, (s.setSite i r).enabledSites.length⟩
    b.site = i.val → b.lane = l.val → r.station ≤ 4095 →
    (r.enabled = true →
      r.station ≠ 0 ∧ ∀ j, j ≠ i → (s.site j).enabled = true → (s.site j).station ≠ r.station) →
    (∀ q, (getAt r.limits q).1 ≤ (getAt r.limits q).2) →
    (old.enabled = true → r.enabled = false → ∀ j d, s.entry j = some d → d.site ≠ i) →
    (∀ e q v, (s.target e i).pending = some v ∨
        (s.target e i).state = .sent ∧ (s.target e i).lastSent = some v →
      (getAt r.limits q).1 ≤ getAt v q ∧ getAt v q ≤ (getAt r.limits q).2) →
    ∃ x, thenGrants .site s x ∧
      x.outline = ((s.setSite i r).retired tk ⟨.ok, 0, 0, 0⟩).outline ∧ Retires s x tk result ∧
      (256 ≤ s.queue.length + (s.retirementWrites tk result).length → s.base ≠ 0 →
        old.enabled = false → r.enabled = true →
        x.waiting = [.siteRequest i old r] ∧ x.engines = s.engines ∧ x.planners = s.planners ∧
        x.lanes = s.lanes ∧ x.deliveries = s.deliveries ∧ x.targets = s.targets) ∧
      (old.enabled = false → r.enabled = false →
        x.waiting = [] ∧ x.engines = s.engines ∧ x.planners = s.planners ∧ x.lanes = s.lanes ∧
        x.deliveries = s.deliveries ∧ x.targets = s.targets ∧
        (stays → x.queue = s.queue ++ s.retirementWrites tk result) ∧
        (¬ stays →
          x.queue = s.queue ++ s.siteMirror i (x.siteBody i) ++ s.retirementWrites tk result)) ∧
      (old.enabled = true → r.enabled = true → stays → r.pace = old.pace →
        x.waiting = [] ∧ x.engines = s.engines ∧ x.planners = s.planners ∧ x.lanes = s.lanes ∧
        x.deliveries = s.deliveries ∧ x.targets = s.targets ∧
        x.queue = s.queue ++ s.retirementWrites tk result) ∧
      (s.queue.length < 252 →
        (stays ∨ r.pace = old.pace ∨ old.enabled ≠ r.enabled → x.waiting = []) ∧
        (∀ l', x.lane l' = { s.lane l' with changed := (x.lane l').changed }) ∧
        (∀ j, j ≠ i → x.engine j = s.engine j ∧ (x.planner j).factor = (s.planner j).factor ∧
          (x.planner j).drift = (s.planner j).drift ∧
          (x.planner j).measurement = (s.planner j).measurement) ∧
        (∀ e j, j ≠ i → x.target e j = s.target e j) ∧
        (∀ j, j ∉ (s.planner i).order → s.slotBecomes x j (s.entry j)) ∧
        (old.enabled = false → r.enabled = true →
          x.engine i = { s.engine i with state := .joining, helloCount := 0, helloDue := true } ∧
          (x.planner i).factor = 4096 ∧ (x.planner i).drift = 0 ∧ (x.planner i).measurement = none ∧
          (x.planner i).timer = some 250 ∧ (x.planner i).lastPace = r.pace ∧
          s.entriesBecome x fun _ d => some d) ∧
        (old.enabled = true → r.enabled = false →
          x.engine i = { Engine.reset with lastReceipt := (s.engine i).lastReceipt } ∧
          (x.planner i).timer = none ∧ (x.planner i).measurement = none ∧
          (x.planner i).factor = (s.planner i).factor ∧ (x.planner i).drift = (s.planner i).drift ∧
          s.targetsReturned x i ∧ s.entriesBecome x fun _ d => some d) ∧
        (old.enabled = true → r.enabled = true → ¬ stays →
          s.siteLetGo x i ∧ (x.engine i).state = .joining ∧ (x.engine i).helloCount = 0 ∧
          (x.engine i).helloDue = true ∧ (x.engine i).probeTimer = none ∧
          (x.planner i).factor = (s.planner i).factor ∧ (x.planner i).drift = (s.planner i).drift) ∧
        (old.enabled = true → r.enabled = true → stays → r.pace ≠ old.pace →
          x.engine i = s.engine i ∧ x.targets = s.targets ∧ (s.entriesBecome x fun _ d => some d) ∧
          x.planner i =
            { s.planner i with
              lastPace := (r.pace * (s.planner i).factor + 4095) / 4096, timer := some 250,
              minSlack := (x.planner i).minSlack, absent := [] }))

/-- R47, R48, R49, R125: an accepted EDITION ticket replaces the record and moves the deadlines of the
CURRENT entries whose plate time has changed. -/
def Obligations.EditionTicket : Prop :=
  ∀ (tk : Ticket) (e : Fin 32) (s : State), s.ready → s.alone tk → tk.kind = 0x04 →
    let b := EditionBody.parse tk.body
    let new : Edition :=
      if b.defined then
        { defined := true, code := b.code, subscribed := b.subscribed, plates := b.plates }
      else Edition.reset
    let sub (i : Fin 16) : Bool :=
      new.defined && getAt new.subscribed i && (getAt new.plates i).isSome && (s.site i).enabled
    let moves (d : Delivery) : Bool :=
      decide (d.edition = e) && d.current && sub d.site &&
        (!s.isSubscriber e d.site || decide (getAt (s.edition e).plates d.site ≠ getAt new.plates d.site))
    let moved (d : Delivery) : Delivery :=
      if moves d then
        { d with deadline := deadlineOf ((getAt new.plates d.site).getD 0) d.pageOffset }
      else d
    b.edition = e.val →
    (b.defined = true → ∀ x, x ≠ e → (s.edition x).defined = true → (s.edition x).code ≠ b.code) →
    (b.defined = false ∨ b.code ≠ (s.edition e).code →
      (∀ j d, s.entry j = some d → d.edition ≠ e) ∧
        ∀ i, (s.target e i).state ≠ .pending ∧ (s.target e i).state ≠ .sent) →
    ∃ x, thenGrants .edition s x ∧
      x.outline = ((s.setEdition e new).retired tk ⟨.ok, 0, 0, 0⟩).outline ∧
      Retires s x tk
        ⟨.ok, 0, (s.inUse.filter fun p => decide ((moved p.2).deadline ≠ p.2.deadline)).length,
          (allSites.filter sub).length⟩ ∧
      x.lanes = s.lanes ∧ x.engines = s.engines ∧ s.pacesKept x ∧
      (s.entriesBecome x fun _ d => some (moved d)) ∧
      (b.defined = true → x.targets = s.targets) ∧
      (b.defined = false → ∀ e' i, x.target e' i = if e' = e then TargetRecord.reset else s.target e' i)

/-- R97, R99, R140, R157, R158, R163, R164, R174, R175: an accepted LANE ticket stores the lane word; enabling
makes the lane DOWN, disabling OFF, with what becomes of the sites of a lane that was UP, and its notes, and a
lane whose enable does not change keeps its state. That OFF keeps the lane's DOWN cause is the model's inference
(log 22); the order of the notes (log 5) and how many writes each makes (log 11) are its choice. -/
def Obligations.LaneTicket : Prop :=
  ∀ (tk : Ticket) (l : Fin 4) (standby : Option (Fin 4)) (s : State), s.ready → s.alone tk →
    tk.kind = 0x05 →
    let b := LaneBody.parse tk.body
    let time := max 1 (min 60 b.quietTime)
    let quiet := b.quietEnable || b.failover
    let old := s.lane l
    b.lane = l.val →
    (b.standby = 0xFF ∧ standby = none ∨ ∃ m : Fin 4, b.standby = m.val ∧ m ≠ l ∧ standby = some m) →
    ∃ x, thenGrants .lane s x ∧
      Retires s x tk
        ⟨.ok, if b.quietTime = time then 0 else 2 ^ 10, (x.lane l).state.code, (x.carried l).length⟩ ∧
      (x.lane l).enable = b.enable ∧ (x.lane l).standby = standby ∧ (x.lane l).failover = b.failover ∧
      (x.lane l).quietEnable = b.quietEnable ∧ (x.lane l).quietTime = time ∧
      (x.lane l).carrier = old.carrier ∧
      (old.enable = false → b.enable = true →
        (x.lane l).state = .down ∧ (x.lane l).cause = none ∧
        (x.lane l).transmitter = old.transmitter) ∧
      (old.enable = true → b.enable = false →
        (x.lane l).state = .off ∧
        (old.state = .up → (x.lane l).transmitter = .free ∧ (x.lane l).cause = some .disabled ∧
          (x.lane l).quietTimer = none ∧
          x.outline = ({ s with sites := x.sites }.retired tk ⟨.ok, 0, 0, 0⟩).outline ∧
          s.sitesLeave x l (s.standbyUp l b.failover standby) ∧
          (s.ordersKept →
            s.notesAre x (s.laneDownNotes x l .disabled (s.standbyUp l b.failover standby))))) ∧
      (old.enable = b.enable →
        (x.lane l).state = old.state ∧ (x.lane l).cause = old.cause ∧
        (x.lane l).transmitter = old.transmitter ∧
        (x.lane l).quietTimer =
          if old.state = .up ∧ (old.quietEnable || old.failover) ≠ quiet then
            (if quiet then some (time * 1000) else none)
          else old.quietTimer) ∧
      (∀ m, m ≠ l → x.lane m = { s.lane m with changed := (x.lane m).changed }) ∧
      (old.state ≠ .up ∨ old.enable = false ∨ b.enable = true →
        x.outline = (s.retired tk ⟨.ok, 0, 0, 0⟩).outline ∧ x.deliveries = s.deliveries ∧
        x.targets = s.targets ∧ x.planners = s.planners ∧ x.engines = s.engines)

/-- R84: a CLOCK ticket gives the clock its value, leaves every timer its time, restarts the measurements in
progress at the new now, and replans every enabled site. -/
def Obligations.ClockTicket : Prop :=
  ∀ (tk : Ticket) (s : State), s.ready → s.alone tk → tk.kind = 0x06 →
    let now := field tk.body 0x00 4
    ∃ x, thenGrants .clock s x ∧
      x.outline = ({ s with clock := now }.retired tk ⟨.ok, 0, 0, 0⟩).outline ∧
      Retires s x tk ⟨.ok, 0, s.clock, s.enabledSites.length⟩ ∧
      x.lanes = s.lanes ∧ x.engines = s.engines ∧ x.targets = s.targets ∧
      x.pollTimer = s.pollTimer ∧
      (∀ i, (x.planner i).measurement =
          (s.planner i).measurement.map (fun _ => { start := now, bytes := 0 }) ∧
        (x.planner i).order = (s.planner i).order ∧ (x.planner i).factor = (s.planner i).factor ∧
        (x.planner i).drift = (s.planner i).drift ∧
        (x.planner i).timer = if (s.site i).enabled then some 250 else (s.planner i).timer) ∧
      (s.entriesBecome x fun _ d => some d) ∧
      ∀ j d, s.entry j = some d → (s.site d.site).enabled = true →
        d.state = .refused ∨ d.state = .failed ∨
          d.state.inOrder = true ∧ j ∈ (s.planner d.site).order →
        ∃ y, x.entry j = some y ∧ y.late = (d.late || decide (d.deadline < now))

/-- R52, R66 to R72, R174, R175: an accepted RELEASE creates a WAITING entry for every subscriber, in site
order in the lowest free indices, and supersedes the CURRENT entry of the key by Table 4-3; a PLATED one
brings a REPLATE_NEEDED note that names the new entry, written while the ring has room for all of them, in
ascending site index. How many writes a note makes is the model's choice (log 11). -/
def Obligations.ReleaseTicket : Prop :=
  ∀ (tk : Ticket) (e : Fin 32) (s : State), s.ready → s.alone tk → tk.kind = 0x10 →
    let b := ReleaseBody.parse tk.body
    let subs := s.subscribers e
    let key : Fin 32 × Nat × Nat := (e, b.sect, b.page)
    let offset := max (-3600000) (min 3600000 b.pageOffset)
    let number := min 4294967295 (s.releaseCounter + 1)
    let previous (i : Fin 16) := s.currentOf i key
    let free := (List.finRange 4096).filter fun j => (s.entry j).isNone
    let made (i : Fin 16) : Delivery :=
      { edition := e, sect := b.sect, page := b.page, version := b.version, site := i,
        state := .waiting, current := true, held := false, atRisk := false, late := false,
        replate := (previous i).any fun p => decide (p.2.state = .plated),
        dataAddress := b.dataAddress, size := b.size, pageOffset := offset,
        deadline := deadlineOf ((getAt (s.edition e).plates i).getD 0) offset,
        releaseNumber := number, sent := 0, acked := 0, prediction := none, reason := none,
        platedTime := none }
    let superseded (j : Fin 4096) (d : Delivery) : Option Delivery :=
      if d.site ∈ subs ∧ previous d.site = some (j, d) then
        match d.state with
        | .waiting | .refused | .failed => none
        | .offered | .sending | .delivered =>
          some { d with current := false, held := false, state := .withdrawing }
        | .plated => some { d with current := false, held := false }
        | .withdrawing => some d
      else some d
    let replates : List (Fin 16 × Fin 4096 × Nat) :=
      (subs.zip free).filterMap fun p =>
        ((previous p.1).filter fun q => decide (q.2.state = .plated)).map fun q =>
          (p.1, p.2, q.2.version)
    let note (p : Fin 16 × Fin 4096 × Nat) : Note :=
      { kind := .replateNeeded, site := some p.1, code := some (s.edition e).code,
        entry := some { index := p.2.1, generation := (s.slot p.2.1).generation + 1, edition := e,
                        sect := b.sect, page := b.page, version := b.version },
        time := s.clock, value := p.2.2 }
    b.edition = e.val → (s.edition e).defined = true → subs ≠ [] → b.sect ≤ 15 → 1 ≤ b.page →
    b.page ≤ 255 → 1 ≤ b.version → b.version ≤ 255 → 1 ≤ b.size → b.size ≤ 268435456 →
    s.dataAdmitted b.dataAddress b.size = true →
    (∀ j d, s.entry j = some d → d.site ∈ subs → d.key = key → d.version < b.version) →
    subs.length ≤ s.freeCount →
    ∃ x, thenGrants .release s x ∧
      x.outline = ({ s with releaseCounter := number }.retired tk ⟨.ok, 0, 0, 0⟩).outline ∧
      Retires s x tk
        ⟨.ok, if b.pageOffset = offset then 0 else 2 ^ 9, subs.length,
          (subs.filter fun i => (previous i).isSome).length⟩ ∧
      x.lanes = s.lanes ∧ x.targets = s.targets ∧ s.pacesKept x ∧
      (∀ i, i ∉ subs → x.engine i = s.engine i) ∧
      (∀ j d, s.entry j = some d → s.slotBecomes x j (superseded j d)) ∧
      (∀ j d, s.entry j = some d → superseded j d ≠ some d → d.state ≠ .plated →
        superseded j d ≠ none → s.handleOf j ∈ (x.engine d.site).withdrawQueue) ∧
      (∀ p ∈ subs.zip free, (x.slot p.2).generation = (s.slot p.2).generation + 1 ∧
        ∃ d, x.entry p.2 = some d ∧ (made p.1).replannedAs d) ∧
      (∀ j ∈ free.drop subs.length, s.slotBecomes x j none) ∧
      s.notesWritten x 0 (replates.map note)

/-- R77, R78, R79: HOLD sets HELD on the matching CURRENT entries and takes them out of the prediction set;
RESUME clears it. -/
def Obligations.HoldAndResumeTickets : Prop :=
  ∀ (tk : Ticket) (s : State), s.ready → s.alone tk →
    let b := PatternBody.parse tk.body
    let current := s.inUse.filter fun p => b.fits p.2 && p.2.current
    let done (c : Instr) (held : Bool) : Prop :=
      ∃ x, thenGrants c s x ∧ x.outline = (s.retired tk ⟨.ok, 0, 0, 0⟩).outline ∧
        Retires s x tk
          ⟨.ok, 0, (current.filter fun p => decide (p.2.held ≠ held)).length, current.length⟩ ∧
        x.lanes = s.lanes ∧ x.engines = s.engines ∧ x.targets = s.targets ∧ s.pacesKept x ∧
        (s.entriesBecome x fun _ d =>
          some (if b.fits d && d.current then { d with held := held } else d)) ∧
        ∀ p ∈ current, p.2.held ≠ held → held = true →
          ∃ d, x.entry p.1 = some d ∧ d.prediction = none ∧ d.atRisk = false
    b.badField = false →
    (tk.kind = 0x11 → done .hold true) ∧ (tk.kind = 0x12 → done .resume false)

/-- R77, R80, R174, R175: RECALL frees the matching CURRENT entries that are WAITING, REFUSED or FAILED,
withdraws those that are OFFERED, SENDING or DELIVERED, and leaves the PLATED, each with a RECALL_TOO_LATE note
that carries its plated time. That the notes go in ascending entry index (log 5), and how many writes each makes
(log 11), are the model's choice. -/
def Obligations.RecallTicket : Prop :=
  ∀ (tk : Ticket) (s : State), s.ready → s.alone tk → tk.kind = 0x13 →
    let b := PatternBody.parse tk.body
    let current := s.inUse.filter fun p => b.fits p.2 && p.2.current
    let recalled (d : Delivery) : Option Delivery :=
      if b.fits d && d.current then
        match d.state with
        | .waiting | .refused | .failed => none
        | .offered | .sending | .delivered =>
          some { d with current := false, held := false, state := .withdrawing }
        | .plated | .withdrawing => some d
      else some d
    b.badField = false →
    ∃ x, thenGrants .recall s x ∧ x.outline = (s.retired tk ⟨.ok, 0, 0, 0⟩).outline ∧
      Retires s x tk
        ⟨.ok, 0, (current.filter fun p => decide (recalled p.2 ≠ some p.2)).length,
          (current.filter fun p => decide (p.2.state = .plated)).length⟩ ∧
      x.lanes = s.lanes ∧ x.targets = s.targets ∧ s.pacesKept x ∧
      (∀ i, (∀ p ∈ current, p.2.site ≠ i) → x.engine i = s.engine i) ∧
      (s.entriesBecome x fun _ d => recalled d) ∧
      (∀ j d y, s.entry j = some d → recalled d = some y → y ≠ d →
        s.handleOf j ∈ (x.engine d.site).withdrawQueue) ∧
      s.notesWritten x 0
        ((current.filter fun p => decide (p.2.state = .plated)).map fun p =>
          s.aboutEntry .recallTooLate (s.handleOf p.1) p.2 (p.2.platedTime.getD 0 : Nat))

/-- R77, R81: RETRY returns every matching REFUSED or FAILED entry to WAITING with sent set to acked and no
reason, in its site's order again, and the sites concerned replan. -/
def Obligations.RetryTicket : Prop :=
  ∀ (tk : Ticket) (s : State), s.ready → s.alone tk → tk.kind = 0x14 →
    let b := PatternBody.parse tk.body
    let again (d : Delivery) : Bool :=
      b.fits d && (decide (d.state = .refused) || decide (d.state = .failed))
    b.badField = false →
    ∃ x, thenGrants .retry s x ∧ x.outline = (s.retired tk ⟨.ok, 0, 0, 0⟩).outline ∧
      Retires s x tk
        ⟨.ok, 0, (s.inUse.filter fun p => again p.2).length,
          (s.inUse.filter fun p => b.fits p.2 && p.2.current).length⟩ ∧
      x.lanes = s.lanes ∧ x.engines = s.engines ∧ x.targets = s.targets ∧ s.pacesKept x ∧
      (s.entriesBecome x fun _ d =>
        some (if again d then { d with state := .waiting, sent := d.acked, reason := none } else d)) ∧
      ∀ j d, s.entry j = some d → again d = true →
        j ∈ (x.planner d.site).order ∧
          ((s.site d.site).enabled = true → (x.planner d.site).timer = some 250)

/-- R82: PURGE frees every DELIVERED, PLATED, REFUSED and FAILED entry of its edition, and leaves the
rest. -/
def Obligations.PurgeTicket : Prop :=
  ∀ (tk : Ticket) (s : State), s.ready → s.alone tk → tk.kind = 0x15 →
    let n := field tk.body 0x00 1
    let gone (d : Delivery) : Bool :=
      decide (d.edition.val = n) &&
        (decide (d.state = .delivered) || decide (d.state = .plated) || decide (d.state = .refused) ||
          decide (d.state = .failed))
    (31 < n → thenGrants .purge s (s.retired tk ⟨.badField, 0, 0, 0⟩)) ∧
    (n ≤ 31 →
      ∃ x, thenGrants .purge s x ∧ x.outline = (s.retired tk ⟨.ok, 0, 0, 0⟩).outline ∧
        Retires s x tk
          ⟨.ok, 0, (s.inUse.filter fun p => gone p.2).length,
            (s.inUse.filter fun p => decide (p.2.edition.val = n) && !gone p.2).length⟩ ∧
        x.lanes = s.lanes ∧ x.targets = s.targets ∧ s.pacesKept x ∧
        (∀ i, (∀ j d, s.entry j = some d → gone d = true → d.site ≠ i) → x.engine i = s.engine i) ∧
        s.entriesBecome x fun _ d => if gone d then none else some d)

/-- R112 to R116, R174, R175: an accepted TARGET ticket gives each subscriber whose hold test finds the clamped
values significant those values as its pending values, counts those subscribers and the rest, and leaves every
other record; each subscriber with values that a clamp changed brings a TARGET_CLAMPED note with their number.
That the notes go in ascending site index (log 5), and how many writes each makes (log 11), are the model's
choice. -/
def Obligations.TargetTicket : Prop :=
  ∀ (tk : Ticket) (e : Fin 32) (s : State), s.ready → s.alone tk → tk.kind = 0x20 →
    let b := TargetBody.parse tk.body
    let raw (i : Fin 16) (q : Fin 8) : Int := (getAt b.masters q : Nat) + getAt (s.site i).offsets q
    let value (i : Fin 16) (q : Fin 8) : Int :=
      max ((getAt (s.site i).limits q).1 : Int) (min ((getAt (s.site i).limits q).2 : Int) (raw i q))
    let v (i : Fin 16) : Values := Vector.ofFn fun q => (value i q).toNat
    let moved (i : Fin 16) : Bool :=
      match (s.target e i).lastSent with
      | none => true
      | some old =>
        (List.finRange 8).any fun q =>
          decide ((2 : Int) ^ (s.site i).hold ≤ |value i q - ((getAt old q : Nat) : Int)|)
    let clamped (i : Fin 16) : Nat :=
      ((List.finRange 8).filter fun q => decide (value i q ≠ raw i q)).length
    let subs := s.subscribers e
    b.edition = e.val → (s.edition e).defined = true → subs ≠ [] →
    (∀ q : Fin 8, getAt b.masters q ≤ if q.val < 4 then 3000 else 400) →
    ∃ x, thenGrants .target s x ∧ x.outline = (s.retired tk ⟨.ok, 0, 0, 0⟩).outline ∧
      x.lanes = s.lanes ∧ x.engines = s.engines ∧ x.planners = s.planners ∧
      x.deliveries = s.deliveries ∧
      Retires s x tk
        ⟨.ok, 0, (subs.filter moved).length, (subs.filter fun i => !moved i).length⟩ ∧
      (∀ i ∈ subs, moved i = true →
        (x.target e i).pending = some (v i) ∧
        ((x.target e i).clamped = true ↔ ∃ q, value i q ≠ raw i q) ∧
        (x.target e i).state = (if (s.target e i).state = .sent then .sent else .pending) ∧
        (x.target e i).lastSent = (s.target e i).lastSent ∧
        (x.target e i).number = (s.target e i).number) ∧
      (∀ e' i, e' ≠ e ∨ i ∉ subs ∨ moved i = false → x.target e' i = s.target e' i) ∧
      s.notesAre x
        ((subs.filter fun i => decide (clamped i ≠ 0)).map fun i =>
          s.aboutTarget .targetClamped i e (clamped i))

/-- R13, R34, R36, R47, R66 to R68, R77, R112, R157: what each kind but WINDOW, PURGE and FENCE is refused
for, the checks of RELEASE, SITE, EDITION and TARGET in their order, and an unknown kind. -/
def Obligations.TicketRefusals : Prop :=
  ∀ (tk : Ticket) (s : State), s.ready → s.alone tk →
    let refused (c : Instr) (code : Code) : Prop := thenGrants c s (s.retired tk ⟨code, 0, 0, 0⟩)
    let byte (n : Nat) : Nat := field tk.body n 1
    let pattern := PatternBody.parse tk.body
    let badPattern : Prop :=
      15 < pattern.selector ∧ pattern.selector ≠ 0xFF ∨
        pattern.anyEdition = false ∧ 31 < pattern.edition ∨
        pattern.anySection = false ∧ 15 < pattern.sect ∨
        pattern.anyPage = false ∧ (pattern.page = 0 ∨ 255 < pattern.page)
    (tk.kind = 0x03 → 15 < byte 0x00 ∨ 3 < byte 0x02 → refused .site .badField) ∧
    (tk.kind = 0x03 → ∀ (i : Fin 16) (l : Fin 4), byte 0x00 = i.val → byte 0x02 = l.val →
      let r := (SiteBody.parse tk.body).record l
      let bad : Prop :=
        4095 < r.station ∨
          r.enabled = true ∧
            (r.station = 0 ∨
              ∃ j, j ≠ i ∧ (s.site j).enabled = true ∧ (s.site j).station = r.station) ∨
          ∃ q, (getAt r.limits q).2 < (getAt r.limits q).1
      let busy : Prop :=
        (s.site i).enabled = true ∧ r.enabled = false ∧ (∃ j d, s.entry j = some d ∧ d.site = i) ∨
          ∃ e q v,
            ((s.target e i).pending = some v ∨
              (s.target e i).state = .sent ∧ (s.target e i).lastSent = some v) ∧
            (getAt v q < (getAt r.limits q).1 ∨ (getAt r.limits q).2 < getAt v q)
      (bad → refused .site .badField) ∧ (¬ bad → busy → refused .site .siteBusy)) ∧
    (tk.kind = 0x04 → 31 < byte 0x00 → refused .edition .badField) ∧
    (tk.kind = 0x04 → ∀ e : Fin 32, byte 0x00 = e.val →
      let b := EditionBody.parse tk.body
      let taken : Prop :=
        b.defined = true ∧ ∃ x, x ≠ e ∧ (s.edition x).defined = true ∧ (s.edition x).code = b.code
      let inUse : Prop :=
        (∃ j d, s.entry j = some d ∧ d.edition = e) ∨
          ∃ i, (s.target e i).state = .pending ∨ (s.target e i).state = .sent
      (taken → refused .edition .badField) ∧
      (¬ taken → inUse → b.defined = false ∨ b.code ≠ (s.edition e).code →
        refused .edition .siteBusy)) ∧
    (tk.kind = 0x05 → 3 < byte 0x00 ∨ byte 0x02 = byte 0x00 ∨ 3 < byte 0x02 ∧ byte 0x02 ≠ 0xFF →
      refused .lane .badField) ∧
    (tk.kind = 0x10 → 31 < byte 0x00 → refused .release .noEdition) ∧
    (tk.kind = 0x10 → ∀ e : Fin 32, byte 0x00 = e.val →
      let b := ReleaseBody.parse tk.body
      let subs := s.subscribers e
      let bad : Prop :=
        15 < b.sect ∨ b.page = 0 ∨ 255 < b.page ∨ b.version = 0 ∨ 255 < b.version ∨ b.size = 0 ∨
          268435456 < b.size
      let admitted : Prop := s.dataAdmitted b.dataAddress b.size = true
      let stale : Prop :=
        ∃ j d, s.entry j = some d ∧ d.site ∈ subs ∧ d.key = (e, b.sect, b.page) ∧
          b.version ≤ d.version
      ((s.edition e).defined = false → refused .release .noEdition) ∧
      ((s.edition e).defined = true → subs = [] → refused .release .noSubscribers) ∧
      (subs ≠ [] → bad → refused .release .badField) ∧
      (subs ≠ [] → ¬ bad → ¬ admitted → refused .release .outOfWindow) ∧
      (subs ≠ [] → ¬ bad → admitted → stale → refused .release .staleVersion) ∧
      (subs ≠ [] → ¬ bad → admitted → ¬ stale → s.freeCount < subs.length →
        refused .release .tableFull)) ∧
    (tk.kind = 0x11 → badPattern → refused .hold .badField) ∧
    (tk.kind = 0x12 → badPattern → refused .resume .badField) ∧
    (tk.kind = 0x13 → badPattern → refused .recall .badField) ∧
    (tk.kind = 0x14 → badPattern → refused .retry .badField) ∧
    (tk.kind = 0x20 → 31 < byte 0x00 → refused .target .noEdition) ∧
    (tk.kind = 0x20 → ∀ e : Fin 32, byte 0x00 = e.val →
      let b := TargetBody.parse tk.body
      ((s.edition e).defined = false → refused .target .noEdition) ∧
      ((s.edition e).defined = true → s.subscribers e = [] → refused .target .noSubscribers) ∧
      (s.subscribers e ≠ [] → ∀ q : Fin 8,
        (if q.val < 4 then 3000 else 400) < getAt b.masters q → refused .target .badField)) ∧
    (tk.kind ∉ [0x01, 0x02, 0x03, 0x04, 0x05, 0x06, 0x10, 0x11, 0x12, 0x13, 0x14, 0x15, 0x20] →
      refused .badKind .badKind)

/-- R13, R16: a ticket that its owner refuses has no effect but its retirement with the code, mask and
result words zero. -/
def Obligations.RefusedTicketHasNoEffect : Prop :=
  ∀ k c owner, (k, c, owner) ∈ ticketOwners → ∀ (tk : Ticket) (s : State), s.ready → s.alone tk →
    tk.kind = k → (owner tk s).2.code ≠ .ok →
    thenGrants c s (s.retired tk ⟨(owner tk s).2.code, 0, 0, 0⟩)

/-- R5, R6, R9, R12 to R15, R21, R23, R31: the command of the kind in execution retires its ticket with the outcome of
its owner, whatever stands behind it in the buffer and whatever the lanes are granted; so do an unknown kind,
a FENCE with no write to wait for, and one whose writes complete. A part that stops then enters IDLE, or
starts at once if RUN is 1 again, where a retired ticket that is no longer admitted faults, and otherwise the
ticket behind enters execution. A ticket behind that faults is left out. How many writes a retirement and the
fault block make is the model's choice (log 11), that FENCE_DRAINED completes its writes at once is log 2, the
set of a FENCE log 24, the reads' tags log 3. -/
def Obligations.EveryTicketRetires : Prop :=
  (∀ k c owner, (k, c, owner) ∈ ticketOwners → ∀ (tk : Ticket) (s : State), s.ready →
    s.executing k = some tk →
    ∃ t, exec c s = .next t ∧ Retires s t tk (owner tk s).2 ∧ s.goesOn (owner tk s).1 t tk) ∧
  ∀ (tk : Ticket) (s : State), s.ready →
    let fence : Result :=
      match s.latch with
      | none => ⟨.ok, 0, 0, 0⟩
      | some f => ⟨.writeFault, 0, areaCode f.offset + (if f.more then 2 ^ 31 else 0), f.offset⟩
    (s.executingUnknown = some tk →
      ∃ t, exec .badKind s = .next t ∧ Retires s t tk ⟨.badKind, 0, 0, 0⟩ ∧ s.goesOn s t tk) ∧
    (s.executing 0x02 = some tk → s.issued = [] → s.queue = [] →
      ∃ t, exec .fence s = .next t ∧ Retires s t tk fence ∧ s.goesOn s t tk) ∧
    (∀ n rest, s.part = .running → s.execution = some (.fence n) → s.buffer = .ticket tk :: rest →
      ∃ t, exec .fenceDrained s = .next t ∧
        Retires { s with queue := s.queue.drop (n - s.issued.length) } t tk fence ∧ s.goesOn s t tk)

/-! ### Posted writes -/

/-- R30, R31: an issued write fails: it has completed, a FENCE that waited for it no longer does, and a
board write's failure is latched, the first with its offset and any later one as MORE. The position names
the write among those issued (log 2), and that one not among them changes nothing is the model's choice (log
1). -/
def Obligations.PostedWriteFailureIsLatched : Prop :=
  ∀ (n : Nat) (s : State),
    (s.issued[n]? = none → exec (.postedWriteFailed n) s = .next s) ∧
    ∀ w, s.issued[n]? = some w →
      exec (.postedWriteFailed n) s =
        .next
          { s with
            issued := s.issued.eraseIdx n,
            execution :=
              match s.execution with
              | some (.fence k) => some (.fence (if n < k then k - 1 else k))
              | e => e
            latch :=
              match w.write, w.stale, s.latch with
              | .board _ offset _, false, none => some { offset := offset, more := false }
              | .board _ _ _, false, some f => some { f with more := true }
              | _, _, x => x }

/-- R4, R5, R168: the link takes the oldest writes until the queue is below 256, and a block that waited for
room then takes its event. With 256 writes queued a command that would place writes waits with no effect,
and so do a start and a grant; a block that waits takes nothing more, while the other blocks go on. That the
command leaves 255 writes in the queue is the model's choice (log 2), and which block takes each event, and
that a waiting command has no effect at all, is log 4. The general clause speaks of the meaning each row has
when it need not wait. -/
def Obligations.QueueRoomLetsWaitingEventsGo : Prop :=
  ∀ (s : State), s.handed = [] → s.part ≠ .halted →
    let n := s.queue.length - 255
    let room : State :=
      { s with queue := s.queue.drop n, waiting := [],
               issued := s.issued ++ (s.queue.take n).map fun w => { write := w, stale := false } }
    let full : Prop := 256 ≤ s.queue.length
    (s.queue.length < 256 → exec .postedWriteQueueRoom s = .next s) ∧
    (full → s.waiting = [] → thenGrants .postedWriteQueueRoom s room) ∧
    (full → ∀ c, s.waiting = [.command c] → drains c = false → (∀ k, c ≠ .postedWriteFailed k) →
      ∀ t, exec c room = .next t → t.waiting = [] → exec .postedWriteQueueRoom s = .next t.finish) ∧
    (full → s.waiting = [] → ∀ c, drains c = false → isReset c = false → c ≠ .productionClockTick →
      (∀ k, c ≠ .postedWriteFailed k) →
      exec c s =
        .next
          (if s.queue.length < (effectOf c s).queue.length then { s with waiting := [.command c] }
           else effectOf c s)) ∧
    (full → s.waiting = [] → s.part = .idle → s.run = false → s.base ≠ 0 → ∀ h,
      exec (.runStart h) s = .next { s with waiting := [.command (.runStart h)] }) ∧
    (full → s.waiting = [] → s.base ≠ 0 → ∀ l i j, s.grantsTo l i → s.report i = some (.offer j) →
      exec (.transmissionComplete l) s =
        .next
          { s.setLane l { s.lane l with transmitter := .free } with waiting := [.grant l] }) ∧
    (full → ∀ h, s.waiting = [.command (.runStart h)] →
      (∀ f, exec (.faultHaltWrite f) s =
        .next { s with waiting := s.waiting ++ [.command (.faultHaltWrite f)] }) ∧
      ∀ i, (s.engine i).probeTimer = some 0 → (s.engine i).state = .lost →
        thenGrants (.probeTimerExpiry i) s
          (s.setEngine i
            { s.engine i with probeTimer := some (s.site i).probeInterval, helloDue := true }))

/-! ### Segment reads -/

/-- R65, R101, R152, R153: a segment read's data goes out as a SEGMENT on its lane when every condition of
R153 holds, a new one joining the outstanding list and raising sent, a resent one changing neither;
otherwise the data is discarded and the grant returned. -/
def Obligations.SegmentDataArrives : Prop :=
  ∀ (tag : Nat) (data : List Byte) (r : Read) (g : SegmentRead) (s : State), s.ready →
    s.findRead tag ReadKind.isSegment = some r → r.live = true → s.part ≠ .halted →
    r.kind = .segment g →
    let h : Handle := ⟨g.index, g.generation⟩
    let m : Message := .segment h g.offset g.length
    let e := s.engine g.site
    let stands (d : Delivery) : Prop :=
      s.named h = some d ∧ d.state = .sending ∧ e.state = .online ∧ (s.site g.site).lane = g.lane ∧
        (s.lane g.lane).state = .up ∧ g.holds = true ∧
        (s.lane g.lane).transmitter = .granted g.site
    let sends (x : State) : Prop :=
      thenGrants (.segmentReadDone tag data) s x ∧ x.outline = s.outline ∧
        x.reads = (s.removeRead tag).reads ∧ x.targets = s.targets ∧
        (∀ i, i ≠ g.site → x.engine i = s.engine i) ∧ s.pacesKept x ∧
        (∀ l, l ≠ g.lane → x.lane l = s.lane l) ∧
        ∃ f, x.lane g.lane = { s.lane g.lane with transmitter := .sending f } ∧ f.runTag = s.runTag ∧
          f.addressee = (s.site g.site).station ∧ f.kind = 0x03 ∧ f.index = g.index.val ∧
          f.generation = g.generation ∧ f.offset = g.offset ∧ f.length = g.length ∧
          (data.length = g.length → f.payload = data)
    (∀ d, stands d → g.resend = false → d.sent = g.offset →
      ∃ x, sends x ∧
        x.engine g.site =
          { e with
            outstanding := e.outstanding ++ [{ message := m, resend := false }],
            receiptTimer :=
              if e.outstanding = [] ∧ e.probeOutstanding = false then
                some (s.site g.site).receiptTimeout
              else e.receiptTimer,
            probeTimer := some (s.site g.site).probeInterval, probeDue := false } ∧
        (x.planner g.site).measurement =
          (if e.hasSegment then (s.planner g.site).measurement
           else some { start := s.clock, bytes := 0 }) ∧
        s.entriesBecome x fun j y =>
          some (if j = g.index then { y with sent := g.offset + g.length } else y)) ∧
    (∀ d, stands d → g.resend = true → (∃ o ∈ e.outstanding, o.message = m) →
      ∃ x, sends x ∧
        x.engine g.site =
          { e with probeTimer := some (s.site g.site).probeInterval, probeDue := false } ∧
        x.planners = s.planners ∧ x.deliveries = s.deliveries) ∧
    ((∀ d, stands d →
        g.resend = false ∧ d.sent ≠ g.offset ∨
          g.resend = true ∧ ∀ o ∈ e.outstanding, o.message ≠ m) →
      thenGrants (.segmentReadDone tag data) s
        (if g.holds then
          (s.removeRead tag).setLane g.lane { s.lane g.lane with transmitter := .free }
        else s.removeRead tag))

/-- R22, R63, R104, R144, R152, R174, R175: a segment read's bus error makes the SENDING entry FAILED with
DATA_READ, sent and acked kept, with its note, takes a resent segment off the list whatever its entry's state,
and returns the grant. How many writes a note makes is the model's choice (log 11). -/
def Obligations.SegmentReadErrorFailsTheEntry : Prop :=
  ∀ (tag : Nat) (r : Read) (g : SegmentRead) (s : State), s.ready →
    s.findRead tag ReadKind.isSegment = some r → r.live = true → s.part ≠ .halted →
    r.kind = .segment g →
    let h : Handle := ⟨g.index, g.generation⟩
    let m : Message := .segment h g.offset g.length
    let e := s.engine g.site
    let returned : State :=
      if g.holds then
        (s.removeRead tag).setLane g.lane { s.lane g.lane with transmitter := .free }
      else s.removeRead tag
    (∀ d, s.named h = some d → d.state = .sending →
      ∃ x, thenGrants (.segmentReadError tag) s x ∧ x.outline = s.outline ∧
        (∃ more, x.reads = (s.removeRead tag).reads ++ more) ∧ x.lanes = returned.lanes ∧ x.targets = s.targets ∧
        s.pacesKept x ∧ (∀ i, i ≠ g.site → x.engine i = s.engine i) ∧
        (x.engine g.site).outstanding =
          ((s.engine g.site).outstanding.filter fun o =>
            !(g.resend && decide (o.message = .segment h g.offset g.length))) ∧
        (s.entriesBecome x fun j y =>
          some (if j = g.index then { y with state := .failed, reason := some .dataRead } else y)) ∧
        s.notesWritten x 0 [s.aboutEntry .failed h d 4]) ∧
    ((∀ d, s.named h = some d → d.state ≠ .sending) →
      (g.resend = false ∨ (∀ o ∈ e.outstanding, o.message ≠ m) →
        thenGrants (.segmentReadError tag) s returned) ∧
      (g.resend = true → (∃ o ∈ e.outstanding, o.message = m) →
        let kept := e.outstanding.filter fun o => decide (o.message ≠ m)
        let dropped : State :=
          returned.setEngine g.site
            (if kept = [] ∧ e.probeOutstanding = false then
              { e with outstanding := kept, receiptTimer := none, retry := 0 }
            else { e with outstanding := kept })
        thenGrants (.segmentReadError tag) s
          (if ∃ o ∈ kept, o.message.isSegment = true then dropped
           else dropped.setPlanner g.site { s.planner g.site with measurement := none })))

/-! ### Timers -/

/-- R135, R146: an expiry of the receipt timer marks all that is outstanding for resending, or makes the
next HELLO due; before the timer has run out, or in HALTED, nothing happens. That an expiry before the timer
has run out changes nothing is the model's choice (log 1). -/
def Obligations.ReceiptTimerResends : Prop :=
  ∀ (i : Fin 16) (s : State), s.ready →
    let e := s.engine i
    (s.part ≠ .halted → e.receiptTimer = some 0 → e.state = .online → e.retry < 3 →
      thenGrants (.receiptTimerExpiry i) s
        (s.setEngine i
          { e with
            retry := e.retry + 1, receiptTimer := some (s.site i).receiptTimeout,
            outstanding := e.outstanding.map fun o => { o with resend := true },
            probeResend := e.probeOutstanding })) ∧
    (s.part ≠ .halted → e.receiptTimer = some 0 → e.state = .joining → e.helloCount < 4 →
      thenGrants (.receiptTimerExpiry i) s
        (s.setEngine i { e with helloDue := true, receiptTimer := none })) ∧
    (s.part = .halted ∨ e.receiptTimer ≠ some 0 → exec (.receiptTimerExpiry i) s = .next s)

/-- R64, R97, R99, R123, R135, R137, R138, R146, R174, R175: the fourth expiry of an ONLINE site, or the one
after the fourth HELLO, makes the site LOST with the loss rule, a HELLO due, the probe timer running, and
SITE_LOST with NO_ANSWER behind the notes of its replan. That the replan's notes go first (log 5), and how many
writes each makes (log 11), are the model's choice. -/
def Obligations.SilentSiteIsLost : Prop :=
  ∀ (i : Fin 16) (s : State), s.ready → s.part ≠ .halted → (s.engine i).receiptTimer = some 0 →
    (s.engine i).state = .online ∧ 3 ≤ (s.engine i).retry ∨
      (s.engine i).state = .joining ∧ 4 ≤ (s.engine i).helloCount →
    ∃ x, thenGrants (.receiptTimerExpiry i) s x ∧ x.outline = s.outline ∧ x.lanes = s.lanes ∧
      s.siteLetGo x i ∧ (x.engine i).state = .lost ∧ (x.engine i).helloDue = true ∧
      (x.engine i).probeTimer = some (s.site i).probeInterval ∧ s.pacesKept x ∧
      (∀ j, j ∉ (s.planner i).order → s.slotBecomes x j (s.entry j)) ∧
      (∀ j, j ≠ i → x.engine j = s.engine j ∧ ∀ e, x.target e j = s.target e j) ∧
      (s.ordersKept → s.notesAre x (s.replanNotes x i ++ [s.aboutSite .siteLost (some i) 1]))

/-- R137, R148: the probe timer restarts at its expiry; in ONLINE it makes a PROBE due when nothing is
outstanding, in LOST a HELLO. That an expiry before the timer has run out changes nothing is the model's
choice (log 1). -/
def Obligations.ProbeTimerExpires : Prop :=
  ∀ (i : Fin 16) (s : State), s.ready →
    let e := s.engine i
    (s.part ≠ .halted → e.probeTimer = some 0 → e.state = .online →
      thenGrants (.probeTimerExpiry i) s
        (s.setEngine i
          { e with
            probeTimer := some (s.site i).probeInterval,
            probeDue :=
              e.probeDue ||
                decide (e.outstanding = [] ∧ e.probeOutstanding = false ∧ e.probeResend = false) })) ∧
    (s.part ≠ .halted → e.probeTimer = some 0 → e.state = .lost →
      thenGrants (.probeTimerExpiry i) s
        (s.setEngine i
          { e with probeTimer := some (s.site i).probeInterval, helloDue := true })) ∧
    (s.part = .halted ∨ e.probeTimer ≠ some 0 → exec (.probeTimerExpiry i) s = .next s)

/-- R91 to R99, R108, R174, R175: a replan that the timer's expiry asks for gives each entry of the prediction set its
finish, the sum of the durations before it, its slack, AT_RISK and LATE, judges LATE of the REFUSED and
FAILED entries, and restarts the timer at 250 ms, with an AT_RISK note for each entry whose flag is set by it
and then a LATE note for each that becomes LATE; the order does not change. That an expiry command when no
expiry is marked changes nothing (log 1), the order of the notes (log 5) and how many writes each makes (log 11)
are the model's choice, and that the mark outlasts another replan is log 30. -/
def Obligations.ReplanPredicts : Prop :=
  ∀ (i : Fin 16) (s : State), s.ready →
    let p := s.planner i
    let pace := ((s.site i).pace * p.factor + 4095) / 4096
    let margin := (s.site i).margin
    let duration (k : Fin 4096) : Nat :=
      match s.entry k with
      | some d => if d.held then 0 else ((d.size - d.acked) * pace + 1048575) / 1048576
      | none => 0
    (s.part ≠ .halted → p.expired = true → (s.site i).enabled = true → p.order.Nodup →
      (∀ j ∈ p.order, ∃ d, s.entry j = some d ∧ d.state.inOrder = true) →
      ∃ x, thenGrants (.replanTimerExpiry i) s x ∧ x.outline = s.outline ∧ x.lanes = s.lanes ∧
        x.engines = s.engines ∧ x.targets = s.targets ∧
        x.planner i =
          { p with lastPace := pace, timer := some 250, minSlack := (x.planner i).minSlack,
                   absent := [], expired := false } ∧
        (∀ k, k ≠ i → x.planner k = s.planner k) ∧ s.notesAre x (s.replanNotes x i) ∧
        (∀ j, j ∉ p.order → s.slotBecomes x j (s.entry j)) ∧
        (∀ j d, j ∉ p.order → s.entry j = some d →
          x.entry j =
            some
              (if d.site = i ∧ (d.state = .refused ∨ d.state = .failed) then
                { d with late := d.late || decide (d.deadline < s.clock) }
              else d)) ∧
        ∀ before j after d, p.order = before ++ j :: after → s.entry j = some d →
          let finish := min 4294967295 (s.clock + ((before.map duration).sum + duration j))
          let slack : Int := max (-2147483648) (min 2147483647 ((d.deadline : Int) - finish))
          let late := d.late || decide (d.deadline < s.clock)
          (d.held = true → x.entry j = some { d with late := late }) ∧
          (d.held = false →
            x.entry j =
              some { d with
                late := late, prediction := some { finish := finish, slack := slack },
                atRisk :=
                  if slack < 2 ^ margin then true
                  else if slack < 2 ^ (margin + 1) then d.atRisk else false } ∧
            ∃ least, (x.planner i).minSlack = some least ∧ least ≤ slack)) ∧
    (s.part = .halted ∨ p.expired = false → exec (.replanTimerExpiry i) s = .next s)

/-- R29, R83: a millisecond counts the clock up to 4,294,967,295, where it holds, and outside HALTED brings
every running timer one millisecond nearer its expiry, a replan timer that runs out being marked so. That a
timer which has run out stays at 0 until its expiry command is taken is the model's choice (log 25), and the
mark of the replan timer is log 30. -/
def Obligations.ClockCountsMilliseconds : Prop :=
  ∀ (s : State),
    let now := if s.clock < 4294967295 then s.clock + 1 else s.clock
    let less (t : Timer) : Timer := t.map fun n => n - 1
    (s.part = .halted → exec .productionClockTick s = .next { s with clock := now }) ∧
    (s.part ≠ .halted →
      exec .productionClockTick s =
        .next
          { s with
            clock := now, pollTimer := less s.pollTimer,
            planners := s.planners.map fun p =>
              { p with timer := less p.timer,
                       expired := p.expired || decide (less p.timer = some 0) },
            engines := s.engines.map fun e =>
              { e with receiptTimer := less e.receiptTimer, probeTimer := less e.probeTimer },
            lanes := s.lanes.map fun x => { x with quietTimer := less x.quietTimer } })

/-! ### Lanes -/

/-- R97, R99, R140, R161, R162, R163, R164, R174, R175: an UP lane goes DOWN on carrier lost or its quiet
timer's expiry: its transmitter is freed, and each site it carries moves to the standby lane if that is UP and
failover is enabled, or is LOST; LANE_DOWN is followed, site by site, by the notes of its replan and its
LANE_FAILOVER or SITE_LOST. That those of a replan go first (log 5), and how many writes each makes (log 11), are
the model's choice. -/
def Obligations.LaneGoesDown : Prop :=
  ∀ (l : Fin 4) (c : Instr) (cause : DownCause) (s : State), s.ready → s.part ≠ .halted →
    (s.lane l).state = .up →
    (c = .quietTimerExpiry l ∧ cause = .quiet ∧ (s.lane l).quietTimer = some 0 ∨
      c = .carrierLost l ∧ cause = .carrier ∧ (s.lane l).carrier = true) →
    ∃ x, thenGrants c s x ∧ x.outline = { s with sites := x.sites }.outline ∧
      x.lane l =
        { s.lane l with
          state := .down, cause := some cause, quietTimer := none, transmitter := .free,
          changed := s.clock, carrier := if cause = .carrier then false else (s.lane l).carrier } ∧
      (∀ m, m ≠ l → x.lane m = { s.lane m with changed := (x.lane m).changed }) ∧
      (∃ more, x.reads = (s.withdrawGrants l).reads ++ more) ∧
      s.sitesLeave x l (s.standbyUp l (s.lane l).failover (s.lane l).standby) ∧
      (s.ordersKept →
        s.notesAre x
          (s.laneDownNotes x l cause (s.standbyUp l (s.lane l).failover (s.lane l).standby)))

/-- R22, R58, R63, R117, R118, R120, R128, R135, R137, R141, R144, R145, R148, R151, R152, R161, R167, R168, R174,
R175: carrier changes alter the held carrier alone on a lane that is not UP, carrier gained on every lane;
transmission complete frees the transmitter, and a lane that is then free and UP is granted to its site,
which supplies what it reports: a HELLO, a PROBE, a WITHDRAW, a TARGET, an OFFER or a new SEGMENT. That a
report of no change changes nothing, and that the grant follows in the same command, are the model's choice
(logs 1 and 5), as is how many writes a note and a rewrite make (log 11), and the reads' tags are log 3. -/
def Obligations.LanePortEvents : Prop :=
  ∀ (l : Fin 4) (s : State), s.ready →
    let x := s.lane l
    let reports (c : Instr) (carrier : Bool) : Prop :=
      ∃ t, thenGrants c s t ∧ t.outline = s.outline ∧ t.deliveries = s.deliveries ∧
        t.targets = s.targets ∧ t.planners = s.planners ∧ t.engines = s.engines ∧
        t.lanes = putAt s.lanes l { x with carrier := carrier, changed := s.clock }
    (s.part ≠ .halted → x.carrier = true → x.state ≠ .up → reports (.carrierLost l) false) ∧
    (s.part ≠ .halted → x.carrier = false → reports (.carrierGained l) true) ∧
    (s.part = .halted ∨ x.carrier = false → exec (.carrierLost l) s = .next s) ∧
    (s.part = .halted ∨ x.carrier = true → exec (.carrierGained l) s = .next s) ∧
    ((∀ f, x.transmitter ≠ .sending f) → exec (.transmissionComplete l) s = .next s) ∧
    (∀ f, x.transmitter = .sending f → s.part = .halted →
      ∃ t, exec (.transmissionComplete l) s = .next t ∧
        t.lane l = { x with transmitter := .free, quietTimer := none }) ∧
    (∀ f, x.transmitter = .sending f → s.part ≠ .halted →
      thenGrants (.transmissionComplete l) s (s.setLane l { x with transmitter := .free })) ∧
    ∀ i, s.grantsTo l i →
      let e := s.engine i
      let timeout := (s.site i).receiptTimeout
      (s.report i = some .hello →
        ∃ f, s.frameTo i f 0x01 none 0 [] ∧
          exec (.transmissionComplete l) s =
            .next
              ((s.setLane l { x with transmitter := .sending f }).setEngine i
                { e with
                  helloDue := false,
                  helloCount := if e.state = .joining then e.helloCount + 1 else e.helloCount,
                  receiptTimer := if e.state = .joining then some timeout else e.receiptTimer })) ∧
      (s.report i = some .probe →
        ∃ f, s.frameTo i f 0x06 none 0 [] ∧
          exec (.transmissionComplete l) s =
            .next
              (s.sends l i f
                { e with
                  probeOutstanding := true, receiptTimer := e.timerJoining e.outstanding timeout })) ∧
      (∀ h, s.report i = some (.withdraw h) →
        ∃ f, s.frameTo i f 0x05 (some h) 0 [] ∧
          exec (.transmissionComplete l) s =
            .next
              (s.sends l i f
                { e with
                  withdrawQueue := e.withdrawQueue.tail,
                  outstanding := e.outstanding ++ [{ message := .withdraw h, resend := false }],
                  receiptTimer := e.timerJoining e.outstanding timeout })) ∧
      (∀ k v, s.report i = some (.target k) → (s.target k i).pending = some v →
        let code := (s.edition k).code
        let number := if 65535 ≤ (s.target k i).number then 1 else (s.target k i).number + 1
        let payload := le 2 code ++ [0, 0] ++ v.toList.flatMap (le 2)
        let current (j : Fin 4096) (d : Delivery) : Prop :=
          j ∈ (s.planner i).order ∧ s.entry j = some d ∧ d.current = true ∧ d.edition = k
        ∃ t f deadline, exec (.transmissionComplete l) s = .next t ∧
          f.payload = payload ∧ f.index = number ∧ f.length = 20 ∧ f.kind = 0x04 ∧ f.offset = 0 ∧
          f.addressee = (s.site i).station ∧ f.runTag = s.runTag ∧ f.sender = 0 ∧ f.reason = 0 ∧
          f.generation = 0 ∧ f.count = 0 ∧
          t.outline = s.outline ∧ t.deliveries = s.deliveries ∧ t.planners = s.planners ∧
          t.lanes = putAt s.lanes l { x with transmitter := .sending f } ∧
          t.engines =
            (s.sends l i f
              { e with
                outstanding :=
                  e.outstanding ++ [{ message := .target k code number v, resend := false }],
                receiptTimer := e.timerJoining e.outstanding timeout }).engines ∧
          t.target k i =
            { s.target k i with
              state := .sent, lastSent := some v, pending := none, number := number,
              deadline := some deadline } ∧
          (∀ j d, current j d → deadline ≤ d.deadline) ∧
          ((∃ j d, current j d ∧ d.deadline = deadline) ∨
            (∀ j d, ¬ current j d) ∧ deadline = s.clock) ∧
          (∀ k' i', k' ≠ k ∨ i' ≠ i →
            t.target k' i' = { s.target k' i' with deadline := (t.target k' i').deadline }) ∧
          t.queue = s.queue ++ s.targetMirror k i (t.target k i)) ∧
      (∀ j d, s.report i = some (.offer j) → s.entry j = some d →
        let h := s.handleOf j
        let kept :=
          e.outstanding.filter fun o => !(o.message.isSegment && decide (o.message.handle = some h))
        let payload :=
          le 2 (s.edition d.edition).code ++ le 1 d.sect ++ le 1 d.page ++ le 1 d.version ++ [0, 0, 0] ++
            le 4 d.size ++ le 4 d.deadline
        ∃ t f, exec (.transmissionComplete l) s = .next t ∧ s.frameTo i f 0x02 (some h) d.acked payload ∧
          t.outline = s.outline ∧ t.targets = s.targets ∧
          t.lanes = putAt s.lanes l { x with transmitter := .sending f } ∧
          t.engines =
            (s.sends l i f
              { e with
                outstanding := kept ++ [{ message := .offer h, resend := false }],
                receiptTimer := e.timerJoining kept timeout,
                retry :=
                  if kept = [] ∧ e.probeOutstanding = false ∧ e.outstanding ≠ [] then 0
                  else e.retry }).engines ∧
          t.entry j = some { d with state := .offered } ∧
          (t.slot j).generation = (s.slot j).generation ∧ (∀ k, k ≠ j → t.slot k = s.slot k) ∧
          t.queue = s.queue ++ s.deliveryMirror h (t.entry j)) ∧
      (∀ j d, s.report i = some (.segment j) → s.entry j = some d →
        (s.dataAdmitted d.dataAddress d.size = true →
          exec (.transmissionComplete l) s =
            .next
              { s.setLane l { x with transmitter := .granted i } with
                nextTag := s.nextTag + 1,
                reads := s.reads ++
                  [{ tag := s.nextTag, address := d.dataAddress + d.sent, live := true,
                     kind :=
                       .segment
                         { site := i, lane := l, index := j, generation := (s.slot j).generation,
                           offset := d.sent, length := min 32768 (d.size - d.sent),
                           resend := false, holds := true } }] }) ∧
        (s.dataAdmitted d.dataAddress d.size = false →
          ∃ t, exec (.transmissionComplete l) s = .next t ∧ t.outline = s.outline ∧
            s.slotBecomes t j (some { d with state := .failed, reason := some .window }) ∧
            s.notesWritten t 0 [s.aboutEntry .failed (s.handleOf j) d 5]))

/-- R147, R148, R149, R150, R169, R170: the bid granted has the lowest class, within class 3 the least
measure, one with a measure before one without, and of equal ones it comes first; the classes and measures;
what an engine reports; that of the sites a lane carries the best bid's alone supplies, what it bid; and what a
resend does: the message goes again with its mark cleared, a PROBE after
the messages, and a message whose purpose has gone leaves the list. That the grant follows in the command
that frees the transmitter is the model's choice (log 5), and the reads' tags are log 3. -/
def Obligations.ArbiterRanksBids : Prop :=
  (∀ (bids : List Bid),
    (bestBid bids = none → bids = []) ∧
    ∀ b, bestBid bids = some b →
      ∃ before after, bids = before ++ b :: after ∧
        (∀ a ∈ before, b.supply.class < a.supply.class ∨
          b.supply.class = a.supply.class ∧
            ∃ m, b.measure = some m ∧ ∀ n, a.measure = some n → m < n) ∧
        ∀ a ∈ after, b.supply.class < a.supply.class ∨
          b.supply.class = a.supply.class ∧
            ∀ n, a.measure = some n → ∃ m, b.measure = some m ∧ m ≤ n) ∧
  (∀ (m : Message) (h : Handle) (k : Fin 32) (j : Fin 4096),
    (Supply.resend m).class = 1 ∧ Supply.resendProbe.class = 1 ∧ (Supply.withdraw h).class = 2 ∧
      (Supply.target k).class = 3 ∧ (Supply.offer j).class = 3 ∧ (Supply.segment j).class = 3 ∧
      Supply.hello.class = 4 ∧ Supply.probe.class = 4) ∧
  (∀ (s : State) (i : Fin 16) (j : Fin 4096) (d : Delivery), s.entry j = some d →
    s.measureOf i (.offer j) = d.prediction.map Prediction.slack ∧
      s.measureOf i (.segment j) = d.prediction.map Prediction.slack) ∧
  (∀ (s : State) (i : Fin 16) (k : Fin 32),
    s.measureOf i (.target k) =
      some (max (-2147483648) (min 2147483647 ((s.targetDeadline k i : Int) - s.clock)))) ∧
  (∀ (s : State) (i : Fin 16),
    let e := s.engine i
    let order := (s.planner i).order
    let windowed : Prop :=
      e.state = .online ∧ e.probeResend = false ∧ (∀ o ∈ e.outstanding, o.resend = false) ∧
        e.outstanding.length < (s.site i).window
    let noTarget : Prop := ∀ k, (s.target k i).state ≠ .pending
    let waits (j : Fin 4096) : Prop :=
      ∃ d, s.entry j = some d ∧ d.state = .waiting ∧ d.held = false
    let feeds (j : Fin 4096) : Prop :=
      ∃ d, s.entry j = some d ∧ d.state = .sending ∧ d.held = false ∧ d.sent < d.size
    let nothing : Prop :=
      e.withdrawQueue = [] ∧ noTarget ∧ ∀ j ∈ order, ¬ waits j ∧ ¬ feeds j
    (s.report i = some .hello ↔ (e.state = .joining ∨ e.state = .lost) ∧ e.helloDue = true) ∧
    (∀ m, s.report i = some (.resend m) ↔
      e.state = .online ∧ ∃ before o after, e.outstanding = before ++ o :: after ∧ o.message = m ∧
        o.resend = true ∧ ∀ y ∈ before, y.resend = false) ∧
    (s.report i = some .resendProbe ↔
      e.state = .online ∧ e.probeResend = true ∧ ∀ o ∈ e.outstanding, o.resend = false) ∧
    (∀ h, s.report i = some (.withdraw h) ↔ windowed ∧ ∃ rest, e.withdrawQueue = h :: rest) ∧
    (∀ k, s.report i = some (.target k) ↔
      windowed ∧ e.withdrawQueue = [] ∧ (s.target k i).state = .pending ∧
        ∀ n, n ≠ k → (s.target n i).state = .pending →
          s.targetDeadline k i < s.targetDeadline n i ∨
            s.targetDeadline k i = s.targetDeadline n i ∧ k < n) ∧
    (∀ j, s.report i = some (.offer j) ↔
      windowed ∧ e.withdrawQueue = [] ∧ noTarget ∧ waits j ∧
        ∃ before after, order = before ++ j :: after ∧ ∀ y ∈ before, ¬ waits y) ∧
    (∀ j, s.report i = some (.segment j) ↔
      windowed ∧ e.withdrawQueue = [] ∧ noTarget ∧ (∀ y ∈ order, ¬ waits y) ∧ feeds j ∧
        ∃ before after, order = before ++ j :: after ∧ ∀ y ∈ before, ¬ feeds y) ∧
    (s.report i = some .probe ↔
      e.state = .online ∧ e.probeResend = false ∧ (∀ o ∈ e.outstanding, o.resend = false) ∧
        e.probeDue = true ∧ (e.outstanding.length < (s.site i).window → nothing))) ∧
  (∀ (l : Fin 4) (b : Bid) (s : State), s.ready → (∃ f, (s.lane l).transmitter = .sending f) →
    s.part ≠ .halted → (s.lane l).state = .up → (∀ m, m ≠ l → s.canGrant m = false) →
    bestBid (s.bids (s.carried l)) = some b →
    let gives (p : Transmitter → Prop) : Prop :=
      ∃ t, exec (.transmissionComplete l) s = .next t ∧ p (t.lane l).transmitter ∧
        ∀ i, i ≠ b.site → t.engine i = s.engine i
    let sends (kind : Nat) : Prop :=
      gives fun x =>
        ∃ f, x = .sending f ∧ f.kind = kind ∧ f.addressee = (s.site b.site).station ∧ f.sender = 0
    let reads (d : Delivery) : Prop :=
      s.dataAdmitted d.dataAddress d.size = true → gives fun x => x = .granted b.site
    let stands (h : Handle) (st : DeliveryState) : Prop := ∃ d, s.named h = some d ∧ d.state = st
    match b.supply with
    | .hello => sends 0x01
    | .probe | .resendProbe => sends 0x06
    | .withdraw _ => sends 0x05
    | .target k => (s.target k b.site).pending ≠ none → sends 0x04
    | .offer _ => sends 0x02
    | .segment j => ∀ d, s.entry j = some d → reads d
    | .resend (.target _ _ _ _) => sends 0x04
    | .resend (.withdraw h) => stands h .withdrawing → sends 0x05
    | .resend (.offer h) => stands h .offered → sends 0x02
    | .resend (.segment h _ _) => ∀ d, s.named h = some d → d.state = .sending → reads d) ∧
  ∀ (l : Fin 4) (i : Fin 16) (s : State), s.ready → s.grantsTo l i →
    let x := s.lane l
    let e := s.engine i
    (s.report i = some .resendProbe →
      ∃ f, s.frameTo i f 0x06 none 0 [] ∧
        exec (.transmissionComplete l) s = .next (s.sends l i f { e with probeResend := false })) ∧
    ∀ before after m, e.state = .online →
      e.outstanding = before ++ { message := m, resend := true } :: after →
      (∀ y ∈ before, y.resend = false) →
      let cleared : Engine :=
        { e with outstanding := before ++ { message := m, resend := false } :: after }
      let kept := e.outstanding.filter fun o => decide (o.message ≠ m)
      let goes (h : Handle) : Prop :=
        ∃ d, s.named h = some d ∧
          match m with
          | .offer _ => d.state = .offered
          | .segment _ _ _ => d.state = .sending
          | .withdraw _ => d.state = .withdrawing
          | .target _ _ _ _ => True
      (∀ k code number v, m = .target k code number v →
        ∃ f, f.index = number ∧ f.kind = 0x04 ∧ f.length = 20 ∧ f.offset = 0 ∧
          f.payload = le 2 code ++ [0, 0] ++ v.toList.flatMap (le 2) ∧
          f.addressee = (s.site i).station ∧ f.runTag = s.runTag ∧ f.sender = 0 ∧ f.reason = 0 ∧
          f.generation = 0 ∧ f.count = 0 ∧
          exec (.transmissionComplete l) s = .next (s.sends l i f cleared)) ∧
      (∀ h, m = .withdraw h → goes h →
        ∃ f, s.frameTo i f 0x05 (some h) 0 [] ∧
          exec (.transmissionComplete l) s = .next (s.sends l i f cleared)) ∧
      (∀ h d, m = .offer h → goes h → s.named h = some d →
        ∃ f,
          s.frameTo i f 0x02 (some h) d.acked
            (le 2 (s.edition d.edition).code ++ le 1 d.sect ++ le 1 d.page ++ le 1 d.version ++
              [0, 0, 0] ++ le 4 d.size ++ le 4 d.deadline) ∧
          exec (.transmissionComplete l) s = .next (s.sends l i f cleared)) ∧
      (∀ h offset length d, m = .segment h offset length → goes h → s.named h = some d →
        s.dataAdmitted d.dataAddress d.size = true →
        exec (.transmissionComplete l) s =
          .next
            { (s.setEngine i cleared).setLane l { x with transmitter := .granted i } with
              nextTag := s.nextTag + 1,
              reads := s.reads ++
                [{ tag := s.nextTag, address := d.dataAddress + offset, live := true,
                   kind :=
                     .segment
                       { site := i, lane := l, index := h.index, generation := h.generation,
                         offset := offset, length := length, resend := true, holds := true } }] }) ∧
      (∀ h, m.handle = some h → ¬ goes h →
        (s.setEngine i { e with outstanding := kept }).report i = none →
        ∃ t, exec (.transmissionComplete l) s = .next t ∧ t.outline = s.outline ∧
          t.deliveries = s.deliveries ∧ t.targets = s.targets ∧
          t.lanes = putAt s.lanes l { x with transmitter := .free } ∧
          t.engines =
            putAt s.engines i
              (if kept = [] ∧ e.probeOutstanding = false then
                { e with outstanding := kept, receiptTimer := none, retry := 0 }
              else { e with outstanding := kept }))

/-! ### Site messages -/

/-- R130, R131, R159, R160, R161, R165: a frame that is not good, or is cut off by HALTED, OFF or no
carrier, changes nothing; a good one for no site restarts the quiet timer of an UP lane, or brings a DOWN
lane UP. That a frame on an OFF lane or without carrier changes nothing is the model's choice (log 1); the
frame check is that of log 10. -/
def Obligations.FramesAtALane : Prop :=
  ∀ (l : Fin 4) (s : State), s.ready →
    let quiet : Timer :=
      if (s.lane l).quietEnable || (s.lane l).failover then some ((s.lane l).quietTime * 1000) else none
    (∀ b : List Byte,
      b.length < 0x40 ∨ 32768 < field b 0x14 4 ∨ b.length ≠ 0x40 + field b 0x14 4 ∨
        field b 0x3C 4 ≠ (crc32 (b.take 0x3C ++ [0, 0, 0, 0] ++ b.drop 0x40)).toNat →
      exec (.badFrame l b) s = .next s) ∧
    ∀ (f : InFrame) (c : Instr), c ∈ siteMessages l f →
      (s.part = .halted ∨ (s.lane l).state = .off ∨ (s.lane l).carrier = false ∨
          32768 < f.length.toNat →
        exec c s = .next s) ∧
      (s.part ≠ .halted → (s.lane l).carrier = true → f.length.toNat ≤ 32768 →
        f.length ≠ 0 ∨ f.runTag ≠ s.runTag ∨ f.addressee ≠ 0 ∨
          (∀ i, (s.site i).enabled = true → (s.site i).lane = l →
            (s.site i).station ≠ f.sender.toNat) →
        ((s.lane l).state = .up →
          thenGrants c s (s.setLane l { s.lane l with quietTimer := quiet })) ∧
        ((s.lane l).state = .down →
          ∃ x, thenGrants c s x ∧ x.outline = s.outline ∧ x.deliveries = s.deliveries ∧
            x.targets = s.targets ∧ x.planners = s.planners ∧ x.engines = s.engines ∧
            x.lanes =
              putAt s.lanes l { s.lane l with state := .up, quietTimer := quiet, changed := s.clock }))

/-- R136, R165, R175 to R177, R179, R181, R183, R185: a WELCOME brings a JOINING or LOST site ONLINE, with
its note and then its site mirror; in ONLINE it is discarded. One that arrives on a DOWN lane brings the
lane UP first, with the lane's note and mirror. That the note goes before the site mirror is the model's
choice (log 5), and how many writes a note and a rewrite make is log 11. -/
def Obligations.WelcomeBringsOnline : Prop :=
  ∀ (l : Fin 4) (f : InFrame) (i : Fin 16) (s : State), s.ready →
    let e := s.engine i
    let x0 := s.lane l
    let quiet : Timer := if x0.quietEnable || x0.failover then some (x0.quietTime * 1000) else none
    let note (kind : NoteKind) (site : Option (Fin 16)) (value : Int) : Note :=
      { kind := kind, site := site, code := none, entry := none, time := s.clock, value := value }
    let online (x : State) : Prop :=
      x.outline = s.outline ∧ x.deliveries = s.deliveries ∧ x.targets = s.targets ∧
        x.planners = s.planners ∧
        x.engines =
          putAt s.engines i
            { e with
              state := .online, helloCount := 0, retry := 0, helloDue := false, receiptTimer := none,
              probeTimer := some (s.site i).probeInterval }
    (s.reaches l f i → e.state = .joining ∨ e.state = .lost →
      ∃ x ws, thenGrants (.welcome l f) s x ∧ online x ∧ x.lanes = (s.heard l).lanes ∧
        s.noteTaken x (note .siteOnline (some i) (s.site i).lane.val) ws ∧
        x.queue = s.queue ++ ws ++ s.siteMirror i (x.siteBody i)) ∧
    (s.part ≠ .halted → x0.state = .down → x0.carrier = true → f.length = 0 →
      s.routeFrame l f = some i → e.state = .joining ∨ e.state = .lost →
      ∃ x m ws ws1, thenGrants (.welcome l f) s x ∧ online x ∧
        x.lanes = putAt s.lanes l { x0 with state := .up, quietTimer := quiet, changed := s.clock } ∧
        m.outline = s.outline ∧ s.noteTaken m (note .laneUp none l.val) ws ∧
        m.noteTaken x (note .siteOnline (some i) (s.site i).lane.val) ws1 ∧
        x.queue = s.queue ++ ws ++ s.laneMirror l (x.laneBody l) ++ ws1 ++
          s.siteMirror i (x.siteBody i)) ∧
    (s.reaches l f i → e.state = .online → thenGrants (.welcome l f) s (s.heard l))

/-- R58, R59, R60, R142, R143, R174, R175, R183: a RECEIPT answers the OFFER outstanding for its handle, raises
acked, or is ignored when its count is below acked; it releases its OFFER and the SEGMENTs its count covers; an
entry that becomes DELIVERED brings its note. That an ignored RECEIPT does not move the time of the last RECEIPT
is the model's inference (log 17), and how many writes a note makes is its choice (log 11). -/
def Obligations.ReceiptAnswers : Prop :=
  ∀ (l : Fin 4) (f : InFrame) (i : Fin 16) (h : Handle) (d : Delivery) (s : State), s.ready →
    s.reaches l f i → s.reports f i h d →
    let count := f.count.toNat
    let offered := (s.engine i).hasOffer h
    let first := min d.acked count
    let raised := max d.acked (min count d.sent)
    let answers (m : Message) : Bool :=
      match m with
      | .offer x => decide (x = h)
      | .segment x offset length => decide (x = h) && decide (offset + length ≤ count)
      | _ => false
    let after : Delivery :=
      if offered then
        match d.state with
        | .offered =>
          { d with acked := first, sent := first,
                   state := if first = d.size then .delivered else .sending }
        | .withdrawing => { d with acked := first, sent := first }
        | _ => d
      else
        { d with
          acked := raised,
          state :=
            if d.state = .sending ∧ raised ≠ d.acked ∧ raised = d.size then .delivered else d.state }
    (offered = false → count < d.acked → thenGrants (.receipt l f) s (s.heard l)) ∧
    (offered = true ∨ d.acked ≤ count →
      ∃ x, thenGrants (.receipt l f) s x ∧ x.outline = s.outline ∧ x.lanes = (s.heard l).lanes ∧
        x.targets = s.targets ∧
        x.engines =
          putAt s.engines i
            { (s.engine i).answered (s.site i).receiptTimeout answers with
              lastReceipt := some s.clock } ∧
        (s.entriesBecome x fun j y => some (if j = h.index then after else y)) ∧
        (d.state ≠ .delivered → after.state = .delivered →
          s.notesWritten x 0 [s.aboutEntry .delivered h d d.size]))

/-- R102, R103, R104, R106, R107, R174, R175: a RECEIPT that raises acked adds the advance to the measurement,
which closes at 65,536: K moves an eighth of the way, and the drift counter steps and is compared, with a
PATH_SLOW or PATH_FAST note behind the DELIVERED note of the same RECEIPT; with no SEGMENT left outstanding the
measurement is discarded. That DELIVERED goes first (log 5), and how many writes a note makes (log 11), are the
model's choice. -/
def Obligations.ReceiptsMeasureThePath : Prop :=
  ∀ (l : Fin 4) (f : InFrame) (i : Fin 16) (h : Handle) (d : Delivery) (s : State), s.ready →
    s.reaches l f i → s.reports f i h d → (s.engine i).hasOffer h = false →
    d.acked < min f.count.toNat d.sent →
    let p := s.planner i
    let advance := min f.count.toNat d.sent - d.acked
    let compare : Int := (s.site i).driftCompare
    ∃ x, thenGrants (.receipt l f) s x ∧
      (p.measurement = none → (x.planner i).factor = p.factor ∧ (x.planner i).drift = p.drift ∧
        (x.planner i).measurement = none) ∧
      ((s.engine i).hasSegment = true → (x.engine i).hasSegment = false →
        (x.planner i).measurement = none) ∧
      ∀ m, p.measurement = some m →
        (m.bytes + advance < 65536 →
          (x.planner i).factor = p.factor ∧ (x.planner i).drift = p.drift ∧
          ((x.engine i).hasSegment = true →
            (x.planner i).measurement = some { m with bytes := m.bytes + advance })) ∧
        (65536 ≤ m.bytes + advance →
          let new := closingFactor (s.site i).pace p.factor (s.clock - m.start) (m.bytes + advance)
          let drift : Int :=
            if (p.factor : Int) + 64 < new then p.drift + 1
            else if new < (p.factor : Int) - 64 then p.drift - 1 else p.drift
          let reached : Prop := compare ≤ drift ∨ drift ≤ -compare
          ((x.planner i).factor : Int) = new ∧
          (reached → (x.planner i).drift = 0) ∧ (¬ reached → (x.planner i).drift = drift) ∧
          ((x.engine i).hasSegment = true →
            (x.planner i).measurement = some { start := s.clock, bytes := 0 }) ∧
          (reached →
            s.notesWritten x (if d.state = .sending ∧ min f.count.toNat d.sent = d.size then 1 else 0)
              [s.aboutSite (if compare ≤ drift then .pathSlow else .pathFast) (some i) new]))

/-- R61, R142, R143, R174, R175: a REFUSE releases the OFFER it names and makes an OFFERED entry REFUSED with
its reason and its note. How many writes a note makes is the model's choice (log 11). -/
def Obligations.RefuseRefusesTheOffer : Prop :=
  ∀ (l : Fin 4) (f : InFrame) (i : Fin 16) (h : Handle) (d : Delivery) (s : State), s.ready →
    s.reaches l f i → s.reports f i h d →
    let reason : Reason :=
      if f.reason = 1 then .noSpace else if f.reason = 2 then .unknownEdition else .notScheduled
    ∃ x, thenGrants (.refuse l f) s x ∧ x.outline = s.outline ∧ x.lanes = (s.heard l).lanes ∧
      x.targets = s.targets ∧ s.pacesKept x ∧
      x.engines =
        putAt s.engines i
          ((s.engine i).answered (s.site i).receiptTimeout fun m => decide (m = .offer h)) ∧
      (d.state = .offered →
        (s.entriesBecome x fun j y =>
          some (if j = h.index then { y with state := .refused, reason := some reason } else y)) ∧
        s.notesWritten x 0
          [s.aboutEntry .refused h d (if f.reason = 1 then 1 else if f.reason = 2 then 2 else 3)]) ∧
      (d.state ≠ .offered → x.deliveries = s.deliveries)

/-- R62, R76, R174, R175 to R177, R179, R181, R182: a PLATED makes a DELIVERED entry PLATED now, with its
mirror rewrite and its note, and gives a WITHDRAWING one its plated time if it has none; in any other state
it changes nothing, and it releases no message. That the rewrite goes before the note is the model's choice
(log 5), and how many writes they make is log 11. -/
def Obligations.PlatedMarksTheEntry : Prop :=
  ∀ (l : Fin 4) (f : InFrame) (i : Fin 16) (h : Handle) (d : Delivery) (s : State), s.ready →
    s.reaches l f i → s.reports f i h d →
    let note : Note :=
      { kind := .plated, site := some i, code := some (s.edition d.edition).code,
        entry := some { index := h.index, generation := h.generation, edition := d.edition,
                        sect := d.sect, page := d.page, version := d.version },
        time := s.clock,
        value := max (-2147483648) (min 2147483647 ((d.deadline : Int) - s.clock)) }
    ∃ x, thenGrants (.plated l f) s x ∧ x.outline = s.outline ∧ x.lanes = (s.heard l).lanes ∧
      x.targets = s.targets ∧ x.engines = s.engines ∧ s.pacesKept x ∧
      (s.entriesBecome x fun j y =>
        some
          (if j = h.index then
            match y.state with
            | .delivered => { y with state := .plated, platedTime := some s.clock }
            | .withdrawing => { y with platedTime := some (y.platedTime.getD s.clock) }
            | _ => y
          else y)) ∧
      (d.state = .delivered →
        ∃ ws, s.noteTaken x note ws ∧
          x.queue = s.queue ++ s.deliveryMirror h (x.entry h.index) ++ ws) ∧
      (d.state = .withdrawing → d.platedTime = none →
        x.queue = s.queue ++ s.deliveryMirror h (x.entry h.index))

/-- R53, R74, R142, R181, R182: a WITHDRAWN frees a WITHDRAWING entry, its generation kept, with every
message that names it and its record rewritten FREE; in any other state it only releases its WITHDRAW. How
many writes a rewrite makes is the model's choice (log 11). -/
def Obligations.WithdrawnFreesTheEntry : Prop :=
  ∀ (l : Fin 4) (f : InFrame) (i : Fin 16) (h : Handle) (d : Delivery) (s : State), s.ready →
    s.reaches l f i → s.reports f i h d →
    ∃ x, thenGrants (.withdrawn l f) s x ∧ x.outline = s.outline ∧ x.lanes = (s.heard l).lanes ∧
      x.targets = s.targets ∧ s.pacesKept x ∧ (∀ k, k ≠ i → x.engine k = s.engine k) ∧
      (d.state = .withdrawing →
        (x.engine i).outstanding =
          ((s.engine i).outstanding.filter fun o => decide (o.message.handle ≠ some h)) ∧
        (x.engine i).withdrawQueue = ((s.engine i).withdrawQueue.filter fun y => decide (y ≠ h)) ∧
        (s.entriesBecome x fun j y => if j = h.index then none else some y) ∧
        (∃ before after, x.queue = s.queue ++ before ++ s.deliveryMirror h none ++ after) ∧
        (s.base ≠ 0 →
          getAt x.rewrites.delivery h.index = getAt s.rewrites.delivery h.index + 1)) ∧
      (d.state ≠ .withdrawing →
        x.engine i =
          (s.engine i).answered (s.site i).receiptTimeout (fun m => decide (m = .withdraw h)) ∧
        x.deliveries = s.deliveries ∧ x.queue = s.queue)

/-- R75, R174, R175 to R177, R179, R181, R182: a TOO_LATE makes a WITHDRAWING entry PLATED with full counts.
The site's CURRENT entry of the key, if there is one, is marked REPLATE with a REPLATE_NEEDED note, and if
there is none the entry's own rewrite is followed by a RECALL_TOO_LATE note. That the rewrite goes before
the note is the model's choice (log 5), and how many writes they make is log 11. -/
def Obligations.TooLateMeansPlated : Prop :=
  ∀ (l : Fin 4) (f : InFrame) (i : Fin 16) (h : Handle) (d : Delivery) (s : State), s.ready →
    s.reaches l f i → s.reports f i h d → d.current = false →
    let plated : Delivery :=
      { d with state := .plated, sent := d.size, acked := d.size,
               platedTime := some (d.platedTime.getD s.clock) }
    let note (kind : NoteKind) (g : Handle) (y : Delivery) (value : Int) : Note :=
      { kind := kind, site := some i, code := some (s.edition y.edition).code,
        entry := some { index := g.index, generation := g.generation, edition := y.edition,
                        sect := y.sect, page := y.page, version := y.version },
        time := s.clock, value := value }
    ∃ x, thenGrants (.tooLate l f) s x ∧ x.outline = s.outline ∧ x.lanes = (s.heard l).lanes ∧
      x.targets = s.targets ∧ s.pacesKept x ∧ (∀ k, k ≠ i → x.engine k = s.engine k) ∧
      (d.state = .withdrawing →
        (x.engine i).outstanding =
          ((s.engine i).outstanding.filter fun o => decide (o.message.handle ≠ some h)) ∧
        (s.entriesBecome x fun j y =>
          some
            (if j = h.index then plated
             else if (s.currentOf i d.key).any fun c => decide (c.1 = j) then { y with replate := true }
             else y)) ∧
        (s.currentOf i d.key = none →
          ∃ ws,
            s.noteTaken x (note .recallTooLate h d (d.platedTime.getD s.clock : Nat)) ws ∧
            x.queue = s.queue ++ s.deliveryMirror h (x.entry h.index) ++ ws) ∧
        ∀ j c, s.currentOf i d.key = some (j, c) → s.noteRoom →
          ∃ before after, x.queue = s.queue ++ before ++
            s.noteWrites (note .replateNeeded (s.handleOf j) c d.version) ++ after) ∧
      (d.state ≠ .withdrawing → x.deliveries = s.deliveries)

/-- R121, R122, R142, R174, R175: a TARGET_OK with the number of a SENT record makes it CONFIRMED, or PENDING
when newer values wait, with a TARGET_CONFIRMED note that carries the number, and releases its TARGET; with any
other number it changes no record. How many writes a note makes is the model's choice (log 11). -/
def Obligations.TargetOkConfirms : Prop :=
  ∀ (l : Fin 4) (f : InFrame) (i : Fin 16) (e : Fin 32) (s : State), s.ready → s.reaches l f i →
    let code := f.count.toNat % 65536
    let number := f.index.toNat
    let t := s.target e i
    (s.edition e).defined = true → (s.edition e).code = code →
    (∀ k, (s.edition k).defined = true → (s.edition k).code = code → k = e) →
    ∃ x, thenGrants (.targetOk l f) s x ∧ x.outline = s.outline ∧ x.lanes = (s.heard l).lanes ∧
      x.deliveries = s.deliveries ∧ s.pacesKept x ∧
      x.engines =
        putAt s.engines i
          ((s.engine i).answered (s.site i).receiptTimeout fun m =>
            match m with
            | .target _ c n _ => decide (c = code ∧ n = number)
            | _ => false) ∧
      (t.state = .sent → t.number = number →
        x.targets =
          putAt s.targets (pairIndex e i)
            { t with state := if t.pending.isSome then .pending else .confirmed } ∧
        s.notesAre x [s.aboutTarget .targetConfirmed i e number]) ∧
      (t.state ≠ .sent ∨ t.number ≠ number → x.targets = s.targets ∧ x.queue = s.queue)

/-- R142, R148: an ECHO in ONLINE with a PROBE outstanding is a releasing answer; any other is discarded. -/
def Obligations.EchoAnswersTheProbe : Prop :=
  ∀ (l : Fin 4) (f : InFrame) (i : Fin 16) (s : State), s.ready → s.reaches l f i →
    let e := s.engine i
    (e.state = .online → e.probeOutstanding = true →
      thenGrants (.echo l f) s
        ((s.heard l).setEngine i
          { e with
            retry := 0, probeOutstanding := false, probeResend := false,
            receiptTimer := if e.outstanding = [] then none else some (s.site i).receiptTimeout })) ∧
    (e.state ≠ .online ∨ e.probeOutstanding = false → thenGrants (.echo l f) s (s.heard l))

/-! ### The whole block -/

/-- R1, R23, R27, R28, R57, R85, R86, R87: the laws of `pacesInRange`, `boardAligned`, `faultShown`,
`ordersKept`, `countsKept` and `segmentsFit` hold at reset. -/
def Obligations.ResetKeepsTheLaws : Prop :=
  State.reset.pacesInRange ∧ State.reset.boardAligned ∧ State.reset.faultShown ∧
    State.reset.ordersKept ∧ State.reset.countsKept ∧ State.reset.segmentsFit

/-- R1, R57, R85, R86, R87: every step keeps every correction factor within 2,048 to 16,383, every drift
counter within −63 to +63, and the board base a multiple of 524,288; every site order with the site's WAITING,
OFFERED and SENDING entries and no other, each once and sorted; and acked at most sent at most size, where the
segments being read lie within their pages and no segment's data waits for room. -/
def Obligations.EveryStepKeepsTheRanges : Prop :=
  ∀ (s t : State), step s = .next t →
    (s.pacesInRange → s.boardAligned → t.pacesInRange ∧ t.boardAligned) ∧
    (s.ordersKept → t.ordersKept) ∧
    (s.countsKept → s.segmentsFit → s.noDataWaits → t.countsKept)

/-- R23, R24, R26, R27, R28: every step keeps FAULT_PRESENT shown exactly in STALLED and HALTED, and outside
RUNNING no ticket buffered or in execution. -/
def Obligations.EveryStepKeepsTheFaultState : Prop :=
  ∀ (s t : State), s.faultShown → step s = .next t → t.faultShown

/-- R29, R108, R155, R171, R186: in HALTED no command but a reset, and no step with none pending, changes a
delivery, a target, a site or edition record, a window, a planner but for its timer, what an engine holds
but for its timers, a lane's word, state, carrier or cause, or the writer's indices and counts, and no write
joins the queue, whatever events still wait; none begins to wait where none did. That no reset is among
those that wait is the model's own (log 4). -/
def Obligations.HaltedKeepsEverything : Prop :=
  ∀ (s t : State), s.part = .halted → s.handed = [] → s.noResetWaits →
    (∀ c, isReset c = false → exec c s = .next t → s.haltKeeps t) ∧
    (s.pending = [] → step s = .next t → s.haltKeeps t)

/-- R4: writes leave the posted-write queue in the order in which they were placed, to be issued in that order:
but for a reset, a command adds writes at the queue's end alone and issues none, a failure taking its write
off those issued; the queue's room issues writes from the front until fewer than 256 are left, the draining
of a FENCE takes off the front the writes it waited for, and a step with no command pending issues the front
write, or with none queued completes the oldest issued. At which commands and steps, and how many writes, the
link takes is the model's choice (log 2), and that no reset waits is its own (log 4). -/
def Obligations.QueueGrowsAtItsEnd : Prop :=
  ∀ (s t : State),
    let issues (n : Nat) : Prop :=
      t.issued = s.issued ++ (s.queue.take n).map (fun w => { write := w, stale := false }) ∧
        ∃ ws, t.queue = s.queue.drop n ++ ws
    (∀ c, isReset c = false → drains c = false → exec c s = .next t →
      (∃ ws, t.queue = s.queue ++ ws) ∧
      (∀ n, c = .postedWriteFailed n → t.issued = s.issued.eraseIdx n) ∧
      ((∀ n, c ≠ .postedWriteFailed n) → t.issued = s.issued)) ∧
    (s.noResetWaits →
      (exec .postedWriteQueueRoom s = .next t → issues (s.queue.length - 255)) ∧
      (exec .fenceDrained s = .next t →
        (∀ n, s.part = .running → s.execution = some (.fence n) →
          t.issued = s.issued.drop n ∧ ∃ ws, t.queue = s.queue.drop (n - s.issued.length) ++ ws) ∧
        (s.part ≠ .running ∨ (∀ n, s.execution ≠ some (.fence n)) → t = s)) ∧
      (s.pending = [] → step s = .next t →
        (s.queue ≠ [] → issues 1) ∧
        (s.queue = [] → t.queue = [] ∧ t.issued = s.issued.tail)))
end

