-- ==== Sys2Proof/Laws/State.lean ====
section
/-! SUPPORT. What each named update of the state leaves: one lemma per field and update, and the reading of
a table just written. -/

namespace Sys2Proof.Machine

/-- Reading is indexing. -/
theorem getAt_eq {α : Type} {n : Nat} (v : Vector α n) (i : Fin n) : getAt v i = v[i.val] := rfl

/-- Reading the place just written gives what was written. -/
@[simp] theorem getAt_putAt_same {α : Type} {n : Nat} (v : Vector α n) (i : Fin n) (x : α) :
    getAt (putAt v i x) i = x := by simp [getAt_eq, putAt]

/-- Reading another place gives what stood there. -/
theorem getAt_putAt_other {α : Type} {n : Nat} (v : Vector α n) (i j : Fin n) (x : α) (h : i ≠ j) :
    getAt (putAt v i x) j = getAt v j := by
  have h1 : i.val ≠ j.val := fun h2 => h (Fin.ext h2)
  simp [getAt_eq, putAt, h1]

/-- Both in one. -/
theorem getAt_putAt {α : Type} {n : Nat} (v : Vector α n) (i j : Fin n) (x : α) :
    getAt (putAt v i x) j = if i = j then x else getAt v j := by
  by_cases h : i = j
  · subst h; simp
  · simp [h, getAt_putAt_other]

/-- A table whose entries are all rewritten by one function. -/
@[simp] theorem getAt_map {α β : Type} {n : Nat} (v : Vector α n) (f : α → β) (i : Fin n) :
    getAt (v.map f) i = f (getAt v i) := by simp [getAt_eq]

/-! ### setSite -/

@[simp] theorem setSite_pending (s : State) (i : Fin 16) (x : SiteRecord) : (s.setSite i x).pending = s.pending := rfl
@[simp] theorem setSite_part (s : State) (i : Fin 16) (x : SiteRecord) : (s.setSite i x).part = s.part := rfl
@[simp] theorem setSite_stopping (s : State) (i : Fin 16) (x : SiteRecord) : (s.setSite i x).stopping = s.stopping := rfl
@[simp] theorem setSite_boardLo (s : State) (i : Fin 16) (x : SiteRecord) : (s.setSite i x).boardLo = s.boardLo := rfl
@[simp] theorem setSite_boardHi (s : State) (i : Fin 16) (x : SiteRecord) : (s.setSite i x).boardHi = s.boardHi := rfl
@[simp] theorem setSite_run (s : State) (i : Fin 16) (x : SiteRecord) : (s.setSite i x).run = s.run := rfl
@[simp] theorem setSite_faultHalt (s : State) (i : Fin 16) (x : SiteRecord) : (s.setSite i x).faultHalt = s.faultHalt := rfl
@[simp] theorem setSite_noBoard (s : State) (i : Fin 16) (x : SiteRecord) : (s.setSite i x).noBoard = s.noBoard := rfl
@[simp] theorem setSite_queue (s : State) (i : Fin 16) (x : SiteRecord) : (s.setSite i x).queue = s.queue := rfl
@[simp] theorem setSite_issued (s : State) (i : Fin 16) (x : SiteRecord) : (s.setSite i x).issued = s.issued := rfl
@[simp] theorem setSite_waiting (s : State) (i : Fin 16) (x : SiteRecord) : (s.setSite i x).waiting = s.waiting := rfl
@[simp] theorem setSite_handed (s : State) (i : Fin 16) (x : SiteRecord) : (s.setSite i x).handed = s.handed := rfl
@[simp] theorem setSite_reads (s : State) (i : Fin 16) (x : SiteRecord) : (s.setSite i x).reads = s.reads := rfl
@[simp] theorem setSite_nextTag (s : State) (i : Fin 16) (x : SiteRecord) : (s.setSite i x).nextTag = s.nextTag := rfl
@[simp] theorem setSite_msiPermitted (s : State) (i : Fin 16) (x : SiteRecord) : (s.setSite i x).msiPermitted = s.msiPermitted := rfl
@[simp] theorem setSite_runTag (s : State) (i : Fin 16) (x : SiteRecord) : (s.setSite i x).runTag = s.runTag := rfl
@[simp] theorem setSite_pollInterval (s : State) (i : Fin 16) (x : SiteRecord) : (s.setSite i x).pollInterval = s.pollInterval := rfl
@[simp] theorem setSite_pollTimer (s : State) (i : Fin 16) (x : SiteRecord) : (s.setSite i x).pollTimer = s.pollTimer := rfl
@[simp] theorem setSite_reader (s : State) (i : Fin 16) (x : SiteRecord) : (s.setSite i x).reader = s.reader := rfl
@[simp] theorem setSite_buffer (s : State) (i : Fin 16) (x : SiteRecord) : (s.setSite i x).buffer = s.buffer := rfl
@[simp] theorem setSite_execution (s : State) (i : Fin 16) (x : SiteRecord) : (s.setSite i x).execution = s.execution := rfl
@[simp] theorem setSite_lastRetired (s : State) (i : Fin 16) (x : SiteRecord) : (s.setSite i x).lastRetired = s.lastRetired := rfl
@[simp] theorem setSite_rereadRequest (s : State) (i : Fin 16) (x : SiteRecord) : (s.setSite i x).rereadRequest = s.rereadRequest := rfl
@[simp] theorem setSite_windows (s : State) (i : Fin 16) (x : SiteRecord) : (s.setSite i x).windows = s.windows := rfl
@[simp] theorem setSite_faultPresent (s : State) (i : Fin 16) (x : SiteRecord) : (s.setSite i x).faultPresent = s.faultPresent := rfl
@[simp] theorem setSite_stallOrigin (s : State) (i : Fin 16) (x : SiteRecord) : (s.setSite i x).stallOrigin = s.stallOrigin := rfl
@[simp] theorem setSite_latch (s : State) (i : Fin 16) (x : SiteRecord) : (s.setSite i x).latch = s.latch := rfl
@[simp] theorem setSite_editions (s : State) (i : Fin 16) (x : SiteRecord) : (s.setSite i x).editions = s.editions := rfl
@[simp] theorem setSite_deliveries (s : State) (i : Fin 16) (x : SiteRecord) : (s.setSite i x).deliveries = s.deliveries := rfl
@[simp] theorem setSite_releaseCounter (s : State) (i : Fin 16) (x : SiteRecord) : (s.setSite i x).releaseCounter = s.releaseCounter := rfl
@[simp] theorem setSite_targets (s : State) (i : Fin 16) (x : SiteRecord) : (s.setSite i x).targets = s.targets := rfl
@[simp] theorem setSite_planners (s : State) (i : Fin 16) (x : SiteRecord) : (s.setSite i x).planners = s.planners := rfl
@[simp] theorem setSite_engines (s : State) (i : Fin 16) (x : SiteRecord) : (s.setSite i x).engines = s.engines := rfl
@[simp] theorem setSite_lanes (s : State) (i : Fin 16) (x : SiteRecord) : (s.setSite i x).lanes = s.lanes := rfl
@[simp] theorem setSite_writeIndex (s : State) (i : Fin 16) (x : SiteRecord) : (s.setSite i x).writeIndex = s.writeIndex := rfl
@[simp] theorem setSite_readIndex (s : State) (i : Fin 16) (x : SiteRecord) : (s.setSite i x).readIndex = s.readIndex := rfl
@[simp] theorem setSite_heldNotes (s : State) (i : Fin 16) (x : SiteRecord) : (s.setSite i x).heldNotes = s.heldNotes := rfl
@[simp] theorem setSite_roomReadInFlight (s : State) (i : Fin 16) (x : SiteRecord) : (s.setSite i x).roomReadInFlight = s.roomReadInFlight := rfl
@[simp] theorem setSite_notesFull (s : State) (i : Fin 16) (x : SiteRecord) : (s.setSite i x).notesFull = s.notesFull := rfl
@[simp] theorem setSite_interruptOutstanding (s : State) (i : Fin 16) (x : SiteRecord) : (s.setSite i x).interruptOutstanding = s.interruptOutstanding := rfl
@[simp] theorem setSite_freeze (s : State) (i : Fin 16) (x : SiteRecord) : (s.setSite i x).freeze = s.freeze := rfl
@[simp] theorem setSite_rewrites (s : State) (i : Fin 16) (x : SiteRecord) : (s.setSite i x).rewrites = s.rewrites := rfl
@[simp] theorem setSite_clock (s : State) (i : Fin 16) (x : SiteRecord) : (s.setSite i x).clock = s.clock := rfl

/-! ### setEngine -/

@[simp] theorem setEngine_pending (s : State) (i : Fin 16) (x : Engine) : (s.setEngine i x).pending = s.pending := rfl
@[simp] theorem setEngine_part (s : State) (i : Fin 16) (x : Engine) : (s.setEngine i x).part = s.part := rfl
@[simp] theorem setEngine_stopping (s : State) (i : Fin 16) (x : Engine) : (s.setEngine i x).stopping = s.stopping := rfl
@[simp] theorem setEngine_boardLo (s : State) (i : Fin 16) (x : Engine) : (s.setEngine i x).boardLo = s.boardLo := rfl
@[simp] theorem setEngine_boardHi (s : State) (i : Fin 16) (x : Engine) : (s.setEngine i x).boardHi = s.boardHi := rfl
@[simp] theorem setEngine_run (s : State) (i : Fin 16) (x : Engine) : (s.setEngine i x).run = s.run := rfl
@[simp] theorem setEngine_faultHalt (s : State) (i : Fin 16) (x : Engine) : (s.setEngine i x).faultHalt = s.faultHalt := rfl
@[simp] theorem setEngine_noBoard (s : State) (i : Fin 16) (x : Engine) : (s.setEngine i x).noBoard = s.noBoard := rfl
@[simp] theorem setEngine_queue (s : State) (i : Fin 16) (x : Engine) : (s.setEngine i x).queue = s.queue := rfl
@[simp] theorem setEngine_issued (s : State) (i : Fin 16) (x : Engine) : (s.setEngine i x).issued = s.issued := rfl
@[simp] theorem setEngine_waiting (s : State) (i : Fin 16) (x : Engine) : (s.setEngine i x).waiting = s.waiting := rfl
@[simp] theorem setEngine_handed (s : State) (i : Fin 16) (x : Engine) : (s.setEngine i x).handed = s.handed := rfl
@[simp] theorem setEngine_reads (s : State) (i : Fin 16) (x : Engine) : (s.setEngine i x).reads = s.reads := rfl
@[simp] theorem setEngine_nextTag (s : State) (i : Fin 16) (x : Engine) : (s.setEngine i x).nextTag = s.nextTag := rfl
@[simp] theorem setEngine_msiPermitted (s : State) (i : Fin 16) (x : Engine) : (s.setEngine i x).msiPermitted = s.msiPermitted := rfl
@[simp] theorem setEngine_runTag (s : State) (i : Fin 16) (x : Engine) : (s.setEngine i x).runTag = s.runTag := rfl
@[simp] theorem setEngine_pollInterval (s : State) (i : Fin 16) (x : Engine) : (s.setEngine i x).pollInterval = s.pollInterval := rfl
@[simp] theorem setEngine_pollTimer (s : State) (i : Fin 16) (x : Engine) : (s.setEngine i x).pollTimer = s.pollTimer := rfl
@[simp] theorem setEngine_reader (s : State) (i : Fin 16) (x : Engine) : (s.setEngine i x).reader = s.reader := rfl
@[simp] theorem setEngine_buffer (s : State) (i : Fin 16) (x : Engine) : (s.setEngine i x).buffer = s.buffer := rfl
@[simp] theorem setEngine_execution (s : State) (i : Fin 16) (x : Engine) : (s.setEngine i x).execution = s.execution := rfl
@[simp] theorem setEngine_lastRetired (s : State) (i : Fin 16) (x : Engine) : (s.setEngine i x).lastRetired = s.lastRetired := rfl
@[simp] theorem setEngine_rereadRequest (s : State) (i : Fin 16) (x : Engine) : (s.setEngine i x).rereadRequest = s.rereadRequest := rfl
@[simp] theorem setEngine_windows (s : State) (i : Fin 16) (x : Engine) : (s.setEngine i x).windows = s.windows := rfl
@[simp] theorem setEngine_faultPresent (s : State) (i : Fin 16) (x : Engine) : (s.setEngine i x).faultPresent = s.faultPresent := rfl
@[simp] theorem setEngine_stallOrigin (s : State) (i : Fin 16) (x : Engine) : (s.setEngine i x).stallOrigin = s.stallOrigin := rfl
@[simp] theorem setEngine_latch (s : State) (i : Fin 16) (x : Engine) : (s.setEngine i x).latch = s.latch := rfl
@[simp] theorem setEngine_sites (s : State) (i : Fin 16) (x : Engine) : (s.setEngine i x).sites = s.sites := rfl
@[simp] theorem setEngine_editions (s : State) (i : Fin 16) (x : Engine) : (s.setEngine i x).editions = s.editions := rfl
@[simp] theorem setEngine_deliveries (s : State) (i : Fin 16) (x : Engine) : (s.setEngine i x).deliveries = s.deliveries := rfl
@[simp] theorem setEngine_releaseCounter (s : State) (i : Fin 16) (x : Engine) : (s.setEngine i x).releaseCounter = s.releaseCounter := rfl
@[simp] theorem setEngine_targets (s : State) (i : Fin 16) (x : Engine) : (s.setEngine i x).targets = s.targets := rfl
@[simp] theorem setEngine_planners (s : State) (i : Fin 16) (x : Engine) : (s.setEngine i x).planners = s.planners := rfl
@[simp] theorem setEngine_lanes (s : State) (i : Fin 16) (x : Engine) : (s.setEngine i x).lanes = s.lanes := rfl
@[simp] theorem setEngine_writeIndex (s : State) (i : Fin 16) (x : Engine) : (s.setEngine i x).writeIndex = s.writeIndex := rfl
@[simp] theorem setEngine_readIndex (s : State) (i : Fin 16) (x : Engine) : (s.setEngine i x).readIndex = s.readIndex := rfl
@[simp] theorem setEngine_heldNotes (s : State) (i : Fin 16) (x : Engine) : (s.setEngine i x).heldNotes = s.heldNotes := rfl
@[simp] theorem setEngine_roomReadInFlight (s : State) (i : Fin 16) (x : Engine) : (s.setEngine i x).roomReadInFlight = s.roomReadInFlight := rfl
@[simp] theorem setEngine_notesFull (s : State) (i : Fin 16) (x : Engine) : (s.setEngine i x).notesFull = s.notesFull := rfl
@[simp] theorem setEngine_interruptOutstanding (s : State) (i : Fin 16) (x : Engine) : (s.setEngine i x).interruptOutstanding = s.interruptOutstanding := rfl
@[simp] theorem setEngine_freeze (s : State) (i : Fin 16) (x : Engine) : (s.setEngine i x).freeze = s.freeze := rfl
@[simp] theorem setEngine_rewrites (s : State) (i : Fin 16) (x : Engine) : (s.setEngine i x).rewrites = s.rewrites := rfl
@[simp] theorem setEngine_clock (s : State) (i : Fin 16) (x : Engine) : (s.setEngine i x).clock = s.clock := rfl

/-! ### setPlanner -/

@[simp] theorem setPlanner_pending (s : State) (i : Fin 16) (x : Planner) : (s.setPlanner i x).pending = s.pending := rfl
@[simp] theorem setPlanner_part (s : State) (i : Fin 16) (x : Planner) : (s.setPlanner i x).part = s.part := rfl
@[simp] theorem setPlanner_stopping (s : State) (i : Fin 16) (x : Planner) : (s.setPlanner i x).stopping = s.stopping := rfl
@[simp] theorem setPlanner_boardLo (s : State) (i : Fin 16) (x : Planner) : (s.setPlanner i x).boardLo = s.boardLo := rfl
@[simp] theorem setPlanner_boardHi (s : State) (i : Fin 16) (x : Planner) : (s.setPlanner i x).boardHi = s.boardHi := rfl
@[simp] theorem setPlanner_run (s : State) (i : Fin 16) (x : Planner) : (s.setPlanner i x).run = s.run := rfl
@[simp] theorem setPlanner_faultHalt (s : State) (i : Fin 16) (x : Planner) : (s.setPlanner i x).faultHalt = s.faultHalt := rfl
@[simp] theorem setPlanner_noBoard (s : State) (i : Fin 16) (x : Planner) : (s.setPlanner i x).noBoard = s.noBoard := rfl
@[simp] theorem setPlanner_queue (s : State) (i : Fin 16) (x : Planner) : (s.setPlanner i x).queue = s.queue := rfl
@[simp] theorem setPlanner_issued (s : State) (i : Fin 16) (x : Planner) : (s.setPlanner i x).issued = s.issued := rfl
@[simp] theorem setPlanner_waiting (s : State) (i : Fin 16) (x : Planner) : (s.setPlanner i x).waiting = s.waiting := rfl
@[simp] theorem setPlanner_handed (s : State) (i : Fin 16) (x : Planner) : (s.setPlanner i x).handed = s.handed := rfl
@[simp] theorem setPlanner_reads (s : State) (i : Fin 16) (x : Planner) : (s.setPlanner i x).reads = s.reads := rfl
@[simp] theorem setPlanner_nextTag (s : State) (i : Fin 16) (x : Planner) : (s.setPlanner i x).nextTag = s.nextTag := rfl
@[simp] theorem setPlanner_msiPermitted (s : State) (i : Fin 16) (x : Planner) : (s.setPlanner i x).msiPermitted = s.msiPermitted := rfl
@[simp] theorem setPlanner_runTag (s : State) (i : Fin 16) (x : Planner) : (s.setPlanner i x).runTag = s.runTag := rfl
@[simp] theorem setPlanner_pollInterval (s : State) (i : Fin 16) (x : Planner) : (s.setPlanner i x).pollInterval = s.pollInterval := rfl
@[simp] theorem setPlanner_pollTimer (s : State) (i : Fin 16) (x : Planner) : (s.setPlanner i x).pollTimer = s.pollTimer := rfl
@[simp] theorem setPlanner_reader (s : State) (i : Fin 16) (x : Planner) : (s.setPlanner i x).reader = s.reader := rfl
@[simp] theorem setPlanner_buffer (s : State) (i : Fin 16) (x : Planner) : (s.setPlanner i x).buffer = s.buffer := rfl
@[simp] theorem setPlanner_execution (s : State) (i : Fin 16) (x : Planner) : (s.setPlanner i x).execution = s.execution := rfl
@[simp] theorem setPlanner_lastRetired (s : State) (i : Fin 16) (x : Planner) : (s.setPlanner i x).lastRetired = s.lastRetired := rfl
@[simp] theorem setPlanner_rereadRequest (s : State) (i : Fin 16) (x : Planner) : (s.setPlanner i x).rereadRequest = s.rereadRequest := rfl
@[simp] theorem setPlanner_windows (s : State) (i : Fin 16) (x : Planner) : (s.setPlanner i x).windows = s.windows := rfl
@[simp] theorem setPlanner_faultPresent (s : State) (i : Fin 16) (x : Planner) : (s.setPlanner i x).faultPresent = s.faultPresent := rfl
@[simp] theorem setPlanner_stallOrigin (s : State) (i : Fin 16) (x : Planner) : (s.setPlanner i x).stallOrigin = s.stallOrigin := rfl
@[simp] theorem setPlanner_latch (s : State) (i : Fin 16) (x : Planner) : (s.setPlanner i x).latch = s.latch := rfl
@[simp] theorem setPlanner_sites (s : State) (i : Fin 16) (x : Planner) : (s.setPlanner i x).sites = s.sites := rfl
@[simp] theorem setPlanner_editions (s : State) (i : Fin 16) (x : Planner) : (s.setPlanner i x).editions = s.editions := rfl
@[simp] theorem setPlanner_deliveries (s : State) (i : Fin 16) (x : Planner) : (s.setPlanner i x).deliveries = s.deliveries := rfl
@[simp] theorem setPlanner_releaseCounter (s : State) (i : Fin 16) (x : Planner) : (s.setPlanner i x).releaseCounter = s.releaseCounter := rfl
@[simp] theorem setPlanner_targets (s : State) (i : Fin 16) (x : Planner) : (s.setPlanner i x).targets = s.targets := rfl
@[simp] theorem setPlanner_engines (s : State) (i : Fin 16) (x : Planner) : (s.setPlanner i x).engines = s.engines := rfl
@[simp] theorem setPlanner_lanes (s : State) (i : Fin 16) (x : Planner) : (s.setPlanner i x).lanes = s.lanes := rfl
@[simp] theorem setPlanner_writeIndex (s : State) (i : Fin 16) (x : Planner) : (s.setPlanner i x).writeIndex = s.writeIndex := rfl
@[simp] theorem setPlanner_readIndex (s : State) (i : Fin 16) (x : Planner) : (s.setPlanner i x).readIndex = s.readIndex := rfl
@[simp] theorem setPlanner_heldNotes (s : State) (i : Fin 16) (x : Planner) : (s.setPlanner i x).heldNotes = s.heldNotes := rfl
@[simp] theorem setPlanner_roomReadInFlight (s : State) (i : Fin 16) (x : Planner) : (s.setPlanner i x).roomReadInFlight = s.roomReadInFlight := rfl
@[simp] theorem setPlanner_notesFull (s : State) (i : Fin 16) (x : Planner) : (s.setPlanner i x).notesFull = s.notesFull := rfl
@[simp] theorem setPlanner_interruptOutstanding (s : State) (i : Fin 16) (x : Planner) : (s.setPlanner i x).interruptOutstanding = s.interruptOutstanding := rfl
@[simp] theorem setPlanner_freeze (s : State) (i : Fin 16) (x : Planner) : (s.setPlanner i x).freeze = s.freeze := rfl
@[simp] theorem setPlanner_rewrites (s : State) (i : Fin 16) (x : Planner) : (s.setPlanner i x).rewrites = s.rewrites := rfl
@[simp] theorem setPlanner_clock (s : State) (i : Fin 16) (x : Planner) : (s.setPlanner i x).clock = s.clock := rfl

/-! ### setLane -/

@[simp] theorem setLane_pending (s : State) (i : Fin 4) (x : Lane) : (s.setLane i x).pending = s.pending := rfl
@[simp] theorem setLane_part (s : State) (i : Fin 4) (x : Lane) : (s.setLane i x).part = s.part := rfl
@[simp] theorem setLane_stopping (s : State) (i : Fin 4) (x : Lane) : (s.setLane i x).stopping = s.stopping := rfl
@[simp] theorem setLane_boardLo (s : State) (i : Fin 4) (x : Lane) : (s.setLane i x).boardLo = s.boardLo := rfl
@[simp] theorem setLane_boardHi (s : State) (i : Fin 4) (x : Lane) : (s.setLane i x).boardHi = s.boardHi := rfl
@[simp] theorem setLane_run (s : State) (i : Fin 4) (x : Lane) : (s.setLane i x).run = s.run := rfl
@[simp] theorem setLane_faultHalt (s : State) (i : Fin 4) (x : Lane) : (s.setLane i x).faultHalt = s.faultHalt := rfl
@[simp] theorem setLane_noBoard (s : State) (i : Fin 4) (x : Lane) : (s.setLane i x).noBoard = s.noBoard := rfl
@[simp] theorem setLane_queue (s : State) (i : Fin 4) (x : Lane) : (s.setLane i x).queue = s.queue := rfl
@[simp] theorem setLane_issued (s : State) (i : Fin 4) (x : Lane) : (s.setLane i x).issued = s.issued := rfl
@[simp] theorem setLane_waiting (s : State) (i : Fin 4) (x : Lane) : (s.setLane i x).waiting = s.waiting := rfl
@[simp] theorem setLane_handed (s : State) (i : Fin 4) (x : Lane) : (s.setLane i x).handed = s.handed := rfl
@[simp] theorem setLane_reads (s : State) (i : Fin 4) (x : Lane) : (s.setLane i x).reads = s.reads := rfl
@[simp] theorem setLane_nextTag (s : State) (i : Fin 4) (x : Lane) : (s.setLane i x).nextTag = s.nextTag := rfl
@[simp] theorem setLane_msiPermitted (s : State) (i : Fin 4) (x : Lane) : (s.setLane i x).msiPermitted = s.msiPermitted := rfl
@[simp] theorem setLane_runTag (s : State) (i : Fin 4) (x : Lane) : (s.setLane i x).runTag = s.runTag := rfl
@[simp] theorem setLane_pollInterval (s : State) (i : Fin 4) (x : Lane) : (s.setLane i x).pollInterval = s.pollInterval := rfl
@[simp] theorem setLane_pollTimer (s : State) (i : Fin 4) (x : Lane) : (s.setLane i x).pollTimer = s.pollTimer := rfl
@[simp] theorem setLane_reader (s : State) (i : Fin 4) (x : Lane) : (s.setLane i x).reader = s.reader := rfl
@[simp] theorem setLane_buffer (s : State) (i : Fin 4) (x : Lane) : (s.setLane i x).buffer = s.buffer := rfl
@[simp] theorem setLane_execution (s : State) (i : Fin 4) (x : Lane) : (s.setLane i x).execution = s.execution := rfl
@[simp] theorem setLane_lastRetired (s : State) (i : Fin 4) (x : Lane) : (s.setLane i x).lastRetired = s.lastRetired := rfl
@[simp] theorem setLane_rereadRequest (s : State) (i : Fin 4) (x : Lane) : (s.setLane i x).rereadRequest = s.rereadRequest := rfl
@[simp] theorem setLane_windows (s : State) (i : Fin 4) (x : Lane) : (s.setLane i x).windows = s.windows := rfl
@[simp] theorem setLane_faultPresent (s : State) (i : Fin 4) (x : Lane) : (s.setLane i x).faultPresent = s.faultPresent := rfl
@[simp] theorem setLane_stallOrigin (s : State) (i : Fin 4) (x : Lane) : (s.setLane i x).stallOrigin = s.stallOrigin := rfl
@[simp] theorem setLane_latch (s : State) (i : Fin 4) (x : Lane) : (s.setLane i x).latch = s.latch := rfl
@[simp] theorem setLane_sites (s : State) (i : Fin 4) (x : Lane) : (s.setLane i x).sites = s.sites := rfl
@[simp] theorem setLane_editions (s : State) (i : Fin 4) (x : Lane) : (s.setLane i x).editions = s.editions := rfl
@[simp] theorem setLane_deliveries (s : State) (i : Fin 4) (x : Lane) : (s.setLane i x).deliveries = s.deliveries := rfl
@[simp] theorem setLane_releaseCounter (s : State) (i : Fin 4) (x : Lane) : (s.setLane i x).releaseCounter = s.releaseCounter := rfl
@[simp] theorem setLane_targets (s : State) (i : Fin 4) (x : Lane) : (s.setLane i x).targets = s.targets := rfl
@[simp] theorem setLane_planners (s : State) (i : Fin 4) (x : Lane) : (s.setLane i x).planners = s.planners := rfl
@[simp] theorem setLane_engines (s : State) (i : Fin 4) (x : Lane) : (s.setLane i x).engines = s.engines := rfl
@[simp] theorem setLane_writeIndex (s : State) (i : Fin 4) (x : Lane) : (s.setLane i x).writeIndex = s.writeIndex := rfl
@[simp] theorem setLane_readIndex (s : State) (i : Fin 4) (x : Lane) : (s.setLane i x).readIndex = s.readIndex := rfl
@[simp] theorem setLane_heldNotes (s : State) (i : Fin 4) (x : Lane) : (s.setLane i x).heldNotes = s.heldNotes := rfl
@[simp] theorem setLane_roomReadInFlight (s : State) (i : Fin 4) (x : Lane) : (s.setLane i x).roomReadInFlight = s.roomReadInFlight := rfl
@[simp] theorem setLane_notesFull (s : State) (i : Fin 4) (x : Lane) : (s.setLane i x).notesFull = s.notesFull := rfl
@[simp] theorem setLane_interruptOutstanding (s : State) (i : Fin 4) (x : Lane) : (s.setLane i x).interruptOutstanding = s.interruptOutstanding := rfl
@[simp] theorem setLane_freeze (s : State) (i : Fin 4) (x : Lane) : (s.setLane i x).freeze = s.freeze := rfl
@[simp] theorem setLane_rewrites (s : State) (i : Fin 4) (x : Lane) : (s.setLane i x).rewrites = s.rewrites := rfl
@[simp] theorem setLane_clock (s : State) (i : Fin 4) (x : Lane) : (s.setLane i x).clock = s.clock := rfl

/-! ### setEdition -/

@[simp] theorem setEdition_pending (s : State) (i : Fin 32) (x : Edition) : (s.setEdition i x).pending = s.pending := rfl
@[simp] theorem setEdition_part (s : State) (i : Fin 32) (x : Edition) : (s.setEdition i x).part = s.part := rfl
@[simp] theorem setEdition_stopping (s : State) (i : Fin 32) (x : Edition) : (s.setEdition i x).stopping = s.stopping := rfl
@[simp] theorem setEdition_boardLo (s : State) (i : Fin 32) (x : Edition) : (s.setEdition i x).boardLo = s.boardLo := rfl
@[simp] theorem setEdition_boardHi (s : State) (i : Fin 32) (x : Edition) : (s.setEdition i x).boardHi = s.boardHi := rfl
@[simp] theorem setEdition_run (s : State) (i : Fin 32) (x : Edition) : (s.setEdition i x).run = s.run := rfl
@[simp] theorem setEdition_faultHalt (s : State) (i : Fin 32) (x : Edition) : (s.setEdition i x).faultHalt = s.faultHalt := rfl
@[simp] theorem setEdition_noBoard (s : State) (i : Fin 32) (x : Edition) : (s.setEdition i x).noBoard = s.noBoard := rfl
@[simp] theorem setEdition_queue (s : State) (i : Fin 32) (x : Edition) : (s.setEdition i x).queue = s.queue := rfl
@[simp] theorem setEdition_issued (s : State) (i : Fin 32) (x : Edition) : (s.setEdition i x).issued = s.issued := rfl
@[simp] theorem setEdition_waiting (s : State) (i : Fin 32) (x : Edition) : (s.setEdition i x).waiting = s.waiting := rfl
@[simp] theorem setEdition_handed (s : State) (i : Fin 32) (x : Edition) : (s.setEdition i x).handed = s.handed := rfl
@[simp] theorem setEdition_reads (s : State) (i : Fin 32) (x : Edition) : (s.setEdition i x).reads = s.reads := rfl
@[simp] theorem setEdition_nextTag (s : State) (i : Fin 32) (x : Edition) : (s.setEdition i x).nextTag = s.nextTag := rfl
@[simp] theorem setEdition_msiPermitted (s : State) (i : Fin 32) (x : Edition) : (s.setEdition i x).msiPermitted = s.msiPermitted := rfl
@[simp] theorem setEdition_runTag (s : State) (i : Fin 32) (x : Edition) : (s.setEdition i x).runTag = s.runTag := rfl
@[simp] theorem setEdition_pollInterval (s : State) (i : Fin 32) (x : Edition) : (s.setEdition i x).pollInterval = s.pollInterval := rfl
@[simp] theorem setEdition_pollTimer (s : State) (i : Fin 32) (x : Edition) : (s.setEdition i x).pollTimer = s.pollTimer := rfl
@[simp] theorem setEdition_reader (s : State) (i : Fin 32) (x : Edition) : (s.setEdition i x).reader = s.reader := rfl
@[simp] theorem setEdition_buffer (s : State) (i : Fin 32) (x : Edition) : (s.setEdition i x).buffer = s.buffer := rfl
@[simp] theorem setEdition_execution (s : State) (i : Fin 32) (x : Edition) : (s.setEdition i x).execution = s.execution := rfl
@[simp] theorem setEdition_lastRetired (s : State) (i : Fin 32) (x : Edition) : (s.setEdition i x).lastRetired = s.lastRetired := rfl
@[simp] theorem setEdition_rereadRequest (s : State) (i : Fin 32) (x : Edition) : (s.setEdition i x).rereadRequest = s.rereadRequest := rfl
@[simp] theorem setEdition_windows (s : State) (i : Fin 32) (x : Edition) : (s.setEdition i x).windows = s.windows := rfl
@[simp] theorem setEdition_faultPresent (s : State) (i : Fin 32) (x : Edition) : (s.setEdition i x).faultPresent = s.faultPresent := rfl
@[simp] theorem setEdition_stallOrigin (s : State) (i : Fin 32) (x : Edition) : (s.setEdition i x).stallOrigin = s.stallOrigin := rfl
@[simp] theorem setEdition_latch (s : State) (i : Fin 32) (x : Edition) : (s.setEdition i x).latch = s.latch := rfl
@[simp] theorem setEdition_sites (s : State) (i : Fin 32) (x : Edition) : (s.setEdition i x).sites = s.sites := rfl
@[simp] theorem setEdition_deliveries (s : State) (i : Fin 32) (x : Edition) : (s.setEdition i x).deliveries = s.deliveries := rfl
@[simp] theorem setEdition_releaseCounter (s : State) (i : Fin 32) (x : Edition) : (s.setEdition i x).releaseCounter = s.releaseCounter := rfl
@[simp] theorem setEdition_targets (s : State) (i : Fin 32) (x : Edition) : (s.setEdition i x).targets = s.targets := rfl
@[simp] theorem setEdition_planners (s : State) (i : Fin 32) (x : Edition) : (s.setEdition i x).planners = s.planners := rfl
@[simp] theorem setEdition_engines (s : State) (i : Fin 32) (x : Edition) : (s.setEdition i x).engines = s.engines := rfl
@[simp] theorem setEdition_lanes (s : State) (i : Fin 32) (x : Edition) : (s.setEdition i x).lanes = s.lanes := rfl
@[simp] theorem setEdition_writeIndex (s : State) (i : Fin 32) (x : Edition) : (s.setEdition i x).writeIndex = s.writeIndex := rfl
@[simp] theorem setEdition_readIndex (s : State) (i : Fin 32) (x : Edition) : (s.setEdition i x).readIndex = s.readIndex := rfl
@[simp] theorem setEdition_heldNotes (s : State) (i : Fin 32) (x : Edition) : (s.setEdition i x).heldNotes = s.heldNotes := rfl
@[simp] theorem setEdition_roomReadInFlight (s : State) (i : Fin 32) (x : Edition) : (s.setEdition i x).roomReadInFlight = s.roomReadInFlight := rfl
@[simp] theorem setEdition_notesFull (s : State) (i : Fin 32) (x : Edition) : (s.setEdition i x).notesFull = s.notesFull := rfl
@[simp] theorem setEdition_interruptOutstanding (s : State) (i : Fin 32) (x : Edition) : (s.setEdition i x).interruptOutstanding = s.interruptOutstanding := rfl
@[simp] theorem setEdition_freeze (s : State) (i : Fin 32) (x : Edition) : (s.setEdition i x).freeze = s.freeze := rfl
@[simp] theorem setEdition_rewrites (s : State) (i : Fin 32) (x : Edition) : (s.setEdition i x).rewrites = s.rewrites := rfl
@[simp] theorem setEdition_clock (s : State) (i : Fin 32) (x : Edition) : (s.setEdition i x).clock = s.clock := rfl

/-! ### setSlot -/

@[simp] theorem setSlot_pending (s : State) (i : Fin 4096) (x : Slot) : (s.setSlot i x).pending = s.pending := rfl
@[simp] theorem setSlot_part (s : State) (i : Fin 4096) (x : Slot) : (s.setSlot i x).part = s.part := rfl
@[simp] theorem setSlot_stopping (s : State) (i : Fin 4096) (x : Slot) : (s.setSlot i x).stopping = s.stopping := rfl
@[simp] theorem setSlot_boardLo (s : State) (i : Fin 4096) (x : Slot) : (s.setSlot i x).boardLo = s.boardLo := rfl
@[simp] theorem setSlot_boardHi (s : State) (i : Fin 4096) (x : Slot) : (s.setSlot i x).boardHi = s.boardHi := rfl
@[simp] theorem setSlot_run (s : State) (i : Fin 4096) (x : Slot) : (s.setSlot i x).run = s.run := rfl
@[simp] theorem setSlot_faultHalt (s : State) (i : Fin 4096) (x : Slot) : (s.setSlot i x).faultHalt = s.faultHalt := rfl
@[simp] theorem setSlot_noBoard (s : State) (i : Fin 4096) (x : Slot) : (s.setSlot i x).noBoard = s.noBoard := rfl
@[simp] theorem setSlot_queue (s : State) (i : Fin 4096) (x : Slot) : (s.setSlot i x).queue = s.queue := rfl
@[simp] theorem setSlot_issued (s : State) (i : Fin 4096) (x : Slot) : (s.setSlot i x).issued = s.issued := rfl
@[simp] theorem setSlot_waiting (s : State) (i : Fin 4096) (x : Slot) : (s.setSlot i x).waiting = s.waiting := rfl
@[simp] theorem setSlot_handed (s : State) (i : Fin 4096) (x : Slot) : (s.setSlot i x).handed = s.handed := rfl
@[simp] theorem setSlot_reads (s : State) (i : Fin 4096) (x : Slot) : (s.setSlot i x).reads = s.reads := rfl
@[simp] theorem setSlot_nextTag (s : State) (i : Fin 4096) (x : Slot) : (s.setSlot i x).nextTag = s.nextTag := rfl
@[simp] theorem setSlot_msiPermitted (s : State) (i : Fin 4096) (x : Slot) : (s.setSlot i x).msiPermitted = s.msiPermitted := rfl
@[simp] theorem setSlot_runTag (s : State) (i : Fin 4096) (x : Slot) : (s.setSlot i x).runTag = s.runTag := rfl
@[simp] theorem setSlot_pollInterval (s : State) (i : Fin 4096) (x : Slot) : (s.setSlot i x).pollInterval = s.pollInterval := rfl
@[simp] theorem setSlot_pollTimer (s : State) (i : Fin 4096) (x : Slot) : (s.setSlot i x).pollTimer = s.pollTimer := rfl
@[simp] theorem setSlot_reader (s : State) (i : Fin 4096) (x : Slot) : (s.setSlot i x).reader = s.reader := rfl
@[simp] theorem setSlot_buffer (s : State) (i : Fin 4096) (x : Slot) : (s.setSlot i x).buffer = s.buffer := rfl
@[simp] theorem setSlot_execution (s : State) (i : Fin 4096) (x : Slot) : (s.setSlot i x).execution = s.execution := rfl
@[simp] theorem setSlot_lastRetired (s : State) (i : Fin 4096) (x : Slot) : (s.setSlot i x).lastRetired = s.lastRetired := rfl
@[simp] theorem setSlot_rereadRequest (s : State) (i : Fin 4096) (x : Slot) : (s.setSlot i x).rereadRequest = s.rereadRequest := rfl
@[simp] theorem setSlot_windows (s : State) (i : Fin 4096) (x : Slot) : (s.setSlot i x).windows = s.windows := rfl
@[simp] theorem setSlot_faultPresent (s : State) (i : Fin 4096) (x : Slot) : (s.setSlot i x).faultPresent = s.faultPresent := rfl
@[simp] theorem setSlot_stallOrigin (s : State) (i : Fin 4096) (x : Slot) : (s.setSlot i x).stallOrigin = s.stallOrigin := rfl
@[simp] theorem setSlot_latch (s : State) (i : Fin 4096) (x : Slot) : (s.setSlot i x).latch = s.latch := rfl
@[simp] theorem setSlot_sites (s : State) (i : Fin 4096) (x : Slot) : (s.setSlot i x).sites = s.sites := rfl
@[simp] theorem setSlot_editions (s : State) (i : Fin 4096) (x : Slot) : (s.setSlot i x).editions = s.editions := rfl
@[simp] theorem setSlot_releaseCounter (s : State) (i : Fin 4096) (x : Slot) : (s.setSlot i x).releaseCounter = s.releaseCounter := rfl
@[simp] theorem setSlot_targets (s : State) (i : Fin 4096) (x : Slot) : (s.setSlot i x).targets = s.targets := rfl
@[simp] theorem setSlot_planners (s : State) (i : Fin 4096) (x : Slot) : (s.setSlot i x).planners = s.planners := rfl
@[simp] theorem setSlot_engines (s : State) (i : Fin 4096) (x : Slot) : (s.setSlot i x).engines = s.engines := rfl
@[simp] theorem setSlot_lanes (s : State) (i : Fin 4096) (x : Slot) : (s.setSlot i x).lanes = s.lanes := rfl
@[simp] theorem setSlot_writeIndex (s : State) (i : Fin 4096) (x : Slot) : (s.setSlot i x).writeIndex = s.writeIndex := rfl
@[simp] theorem setSlot_readIndex (s : State) (i : Fin 4096) (x : Slot) : (s.setSlot i x).readIndex = s.readIndex := rfl
@[simp] theorem setSlot_heldNotes (s : State) (i : Fin 4096) (x : Slot) : (s.setSlot i x).heldNotes = s.heldNotes := rfl
@[simp] theorem setSlot_roomReadInFlight (s : State) (i : Fin 4096) (x : Slot) : (s.setSlot i x).roomReadInFlight = s.roomReadInFlight := rfl
@[simp] theorem setSlot_notesFull (s : State) (i : Fin 4096) (x : Slot) : (s.setSlot i x).notesFull = s.notesFull := rfl
@[simp] theorem setSlot_interruptOutstanding (s : State) (i : Fin 4096) (x : Slot) : (s.setSlot i x).interruptOutstanding = s.interruptOutstanding := rfl
@[simp] theorem setSlot_freeze (s : State) (i : Fin 4096) (x : Slot) : (s.setSlot i x).freeze = s.freeze := rfl
@[simp] theorem setSlot_rewrites (s : State) (i : Fin 4096) (x : Slot) : (s.setSlot i x).rewrites = s.rewrites := rfl
@[simp] theorem setSlot_clock (s : State) (i : Fin 4096) (x : Slot) : (s.setSlot i x).clock = s.clock := rfl

/-! ### hand -/

@[simp] theorem hand_pending (s : State) (x : Handing) : (s.hand x).pending = s.pending := rfl
@[simp] theorem hand_part (s : State) (x : Handing) : (s.hand x).part = s.part := rfl
@[simp] theorem hand_stopping (s : State) (x : Handing) : (s.hand x).stopping = s.stopping := rfl
@[simp] theorem hand_boardLo (s : State) (x : Handing) : (s.hand x).boardLo = s.boardLo := rfl
@[simp] theorem hand_boardHi (s : State) (x : Handing) : (s.hand x).boardHi = s.boardHi := rfl
@[simp] theorem hand_run (s : State) (x : Handing) : (s.hand x).run = s.run := rfl
@[simp] theorem hand_faultHalt (s : State) (x : Handing) : (s.hand x).faultHalt = s.faultHalt := rfl
@[simp] theorem hand_noBoard (s : State) (x : Handing) : (s.hand x).noBoard = s.noBoard := rfl
@[simp] theorem hand_queue (s : State) (x : Handing) : (s.hand x).queue = s.queue := rfl
@[simp] theorem hand_issued (s : State) (x : Handing) : (s.hand x).issued = s.issued := rfl
@[simp] theorem hand_waiting (s : State) (x : Handing) : (s.hand x).waiting = s.waiting := rfl
@[simp] theorem hand_reads (s : State) (x : Handing) : (s.hand x).reads = s.reads := rfl
@[simp] theorem hand_nextTag (s : State) (x : Handing) : (s.hand x).nextTag = s.nextTag := rfl
@[simp] theorem hand_msiPermitted (s : State) (x : Handing) : (s.hand x).msiPermitted = s.msiPermitted := rfl
@[simp] theorem hand_runTag (s : State) (x : Handing) : (s.hand x).runTag = s.runTag := rfl
@[simp] theorem hand_pollInterval (s : State) (x : Handing) : (s.hand x).pollInterval = s.pollInterval := rfl
@[simp] theorem hand_pollTimer (s : State) (x : Handing) : (s.hand x).pollTimer = s.pollTimer := rfl
@[simp] theorem hand_reader (s : State) (x : Handing) : (s.hand x).reader = s.reader := rfl
@[simp] theorem hand_buffer (s : State) (x : Handing) : (s.hand x).buffer = s.buffer := rfl
@[simp] theorem hand_execution (s : State) (x : Handing) : (s.hand x).execution = s.execution := rfl
@[simp] theorem hand_lastRetired (s : State) (x : Handing) : (s.hand x).lastRetired = s.lastRetired := rfl
@[simp] theorem hand_rereadRequest (s : State) (x : Handing) : (s.hand x).rereadRequest = s.rereadRequest := rfl
@[simp] theorem hand_windows (s : State) (x : Handing) : (s.hand x).windows = s.windows := rfl
@[simp] theorem hand_faultPresent (s : State) (x : Handing) : (s.hand x).faultPresent = s.faultPresent := rfl
@[simp] theorem hand_stallOrigin (s : State) (x : Handing) : (s.hand x).stallOrigin = s.stallOrigin := rfl
@[simp] theorem hand_latch (s : State) (x : Handing) : (s.hand x).latch = s.latch := rfl
@[simp] theorem hand_sites (s : State) (x : Handing) : (s.hand x).sites = s.sites := rfl
@[simp] theorem hand_editions (s : State) (x : Handing) : (s.hand x).editions = s.editions := rfl
@[simp] theorem hand_deliveries (s : State) (x : Handing) : (s.hand x).deliveries = s.deliveries := rfl
@[simp] theorem hand_releaseCounter (s : State) (x : Handing) : (s.hand x).releaseCounter = s.releaseCounter := rfl
@[simp] theorem hand_targets (s : State) (x : Handing) : (s.hand x).targets = s.targets := rfl
@[simp] theorem hand_planners (s : State) (x : Handing) : (s.hand x).planners = s.planners := rfl
@[simp] theorem hand_engines (s : State) (x : Handing) : (s.hand x).engines = s.engines := rfl
@[simp] theorem hand_lanes (s : State) (x : Handing) : (s.hand x).lanes = s.lanes := rfl
@[simp] theorem hand_writeIndex (s : State) (x : Handing) : (s.hand x).writeIndex = s.writeIndex := rfl
@[simp] theorem hand_readIndex (s : State) (x : Handing) : (s.hand x).readIndex = s.readIndex := rfl
@[simp] theorem hand_heldNotes (s : State) (x : Handing) : (s.hand x).heldNotes = s.heldNotes := rfl
@[simp] theorem hand_roomReadInFlight (s : State) (x : Handing) : (s.hand x).roomReadInFlight = s.roomReadInFlight := rfl
@[simp] theorem hand_notesFull (s : State) (x : Handing) : (s.hand x).notesFull = s.notesFull := rfl
@[simp] theorem hand_interruptOutstanding (s : State) (x : Handing) : (s.hand x).interruptOutstanding = s.interruptOutstanding := rfl
@[simp] theorem hand_freeze (s : State) (x : Handing) : (s.hand x).freeze = s.freeze := rfl
@[simp] theorem hand_rewrites (s : State) (x : Handing) : (s.hand x).rewrites = s.rewrites := rfl
@[simp] theorem hand_clock (s : State) (x : Handing) : (s.hand x).clock = s.clock := rfl

/-! ### handAll -/

@[simp] theorem handAll_pending (s : State) (x : List Handing) : (s.handAll x).pending = s.pending := rfl
@[simp] theorem handAll_part (s : State) (x : List Handing) : (s.handAll x).part = s.part := rfl
@[simp] theorem handAll_stopping (s : State) (x : List Handing) : (s.handAll x).stopping = s.stopping := rfl
@[simp] theorem handAll_boardLo (s : State) (x : List Handing) : (s.handAll x).boardLo = s.boardLo := rfl
@[simp] theorem handAll_boardHi (s : State) (x : List Handing) : (s.handAll x).boardHi = s.boardHi := rfl
@[simp] theorem handAll_run (s : State) (x : List Handing) : (s.handAll x).run = s.run := rfl
@[simp] theorem handAll_faultHalt (s : State) (x : List Handing) : (s.handAll x).faultHalt = s.faultHalt := rfl
@[simp] theorem handAll_noBoard (s : State) (x : List Handing) : (s.handAll x).noBoard = s.noBoard := rfl
@[simp] theorem handAll_queue (s : State) (x : List Handing) : (s.handAll x).queue = s.queue := rfl
@[simp] theorem handAll_issued (s : State) (x : List Handing) : (s.handAll x).issued = s.issued := rfl
@[simp] theorem handAll_waiting (s : State) (x : List Handing) : (s.handAll x).waiting = s.waiting := rfl
@[simp] theorem handAll_reads (s : State) (x : List Handing) : (s.handAll x).reads = s.reads := rfl
@[simp] theorem handAll_nextTag (s : State) (x : List Handing) : (s.handAll x).nextTag = s.nextTag := rfl
@[simp] theorem handAll_msiPermitted (s : State) (x : List Handing) : (s.handAll x).msiPermitted = s.msiPermitted := rfl
@[simp] theorem handAll_runTag (s : State) (x : List Handing) : (s.handAll x).runTag = s.runTag := rfl
@[simp] theorem handAll_pollInterval (s : State) (x : List Handing) : (s.handAll x).pollInterval = s.pollInterval := rfl
@[simp] theorem handAll_pollTimer (s : State) (x : List Handing) : (s.handAll x).pollTimer = s.pollTimer := rfl
@[simp] theorem handAll_reader (s : State) (x : List Handing) : (s.handAll x).reader = s.reader := rfl
@[simp] theorem handAll_buffer (s : State) (x : List Handing) : (s.handAll x).buffer = s.buffer := rfl
@[simp] theorem handAll_execution (s : State) (x : List Handing) : (s.handAll x).execution = s.execution := rfl
@[simp] theorem handAll_lastRetired (s : State) (x : List Handing) : (s.handAll x).lastRetired = s.lastRetired := rfl
@[simp] theorem handAll_rereadRequest (s : State) (x : List Handing) : (s.handAll x).rereadRequest = s.rereadRequest := rfl
@[simp] theorem handAll_windows (s : State) (x : List Handing) : (s.handAll x).windows = s.windows := rfl
@[simp] theorem handAll_faultPresent (s : State) (x : List Handing) : (s.handAll x).faultPresent = s.faultPresent := rfl
@[simp] theorem handAll_stallOrigin (s : State) (x : List Handing) : (s.handAll x).stallOrigin = s.stallOrigin := rfl
@[simp] theorem handAll_latch (s : State) (x : List Handing) : (s.handAll x).latch = s.latch := rfl
@[simp] theorem handAll_sites (s : State) (x : List Handing) : (s.handAll x).sites = s.sites := rfl
@[simp] theorem handAll_editions (s : State) (x : List Handing) : (s.handAll x).editions = s.editions := rfl
@[simp] theorem handAll_deliveries (s : State) (x : List Handing) : (s.handAll x).deliveries = s.deliveries := rfl
@[simp] theorem handAll_releaseCounter (s : State) (x : List Handing) : (s.handAll x).releaseCounter = s.releaseCounter := rfl
@[simp] theorem handAll_targets (s : State) (x : List Handing) : (s.handAll x).targets = s.targets := rfl
@[simp] theorem handAll_planners (s : State) (x : List Handing) : (s.handAll x).planners = s.planners := rfl
@[simp] theorem handAll_engines (s : State) (x : List Handing) : (s.handAll x).engines = s.engines := rfl
@[simp] theorem handAll_lanes (s : State) (x : List Handing) : (s.handAll x).lanes = s.lanes := rfl
@[simp] theorem handAll_writeIndex (s : State) (x : List Handing) : (s.handAll x).writeIndex = s.writeIndex := rfl
@[simp] theorem handAll_readIndex (s : State) (x : List Handing) : (s.handAll x).readIndex = s.readIndex := rfl
@[simp] theorem handAll_heldNotes (s : State) (x : List Handing) : (s.handAll x).heldNotes = s.heldNotes := rfl
@[simp] theorem handAll_roomReadInFlight (s : State) (x : List Handing) : (s.handAll x).roomReadInFlight = s.roomReadInFlight := rfl
@[simp] theorem handAll_notesFull (s : State) (x : List Handing) : (s.handAll x).notesFull = s.notesFull := rfl
@[simp] theorem handAll_interruptOutstanding (s : State) (x : List Handing) : (s.handAll x).interruptOutstanding = s.interruptOutstanding := rfl
@[simp] theorem handAll_freeze (s : State) (x : List Handing) : (s.handAll x).freeze = s.freeze := rfl
@[simp] theorem handAll_rewrites (s : State) (x : List Handing) : (s.handAll x).rewrites = s.rewrites := rfl
@[simp] theorem handAll_clock (s : State) (x : List Handing) : (s.handAll x).clock = s.clock := rfl

/-! ### place -/

@[simp] theorem place_pending (s : State) (x : List PostedWrite) : (s.place x).pending = s.pending := rfl
@[simp] theorem place_part (s : State) (x : List PostedWrite) : (s.place x).part = s.part := rfl
@[simp] theorem place_stopping (s : State) (x : List PostedWrite) : (s.place x).stopping = s.stopping := rfl
@[simp] theorem place_boardLo (s : State) (x : List PostedWrite) : (s.place x).boardLo = s.boardLo := rfl
@[simp] theorem place_boardHi (s : State) (x : List PostedWrite) : (s.place x).boardHi = s.boardHi := rfl
@[simp] theorem place_run (s : State) (x : List PostedWrite) : (s.place x).run = s.run := rfl
@[simp] theorem place_faultHalt (s : State) (x : List PostedWrite) : (s.place x).faultHalt = s.faultHalt := rfl
@[simp] theorem place_noBoard (s : State) (x : List PostedWrite) : (s.place x).noBoard = s.noBoard := rfl
@[simp] theorem place_issued (s : State) (x : List PostedWrite) : (s.place x).issued = s.issued := rfl
@[simp] theorem place_waiting (s : State) (x : List PostedWrite) : (s.place x).waiting = s.waiting := rfl
@[simp] theorem place_handed (s : State) (x : List PostedWrite) : (s.place x).handed = s.handed := rfl
@[simp] theorem place_reads (s : State) (x : List PostedWrite) : (s.place x).reads = s.reads := rfl
@[simp] theorem place_nextTag (s : State) (x : List PostedWrite) : (s.place x).nextTag = s.nextTag := rfl
@[simp] theorem place_msiPermitted (s : State) (x : List PostedWrite) : (s.place x).msiPermitted = s.msiPermitted := rfl
@[simp] theorem place_runTag (s : State) (x : List PostedWrite) : (s.place x).runTag = s.runTag := rfl
@[simp] theorem place_pollInterval (s : State) (x : List PostedWrite) : (s.place x).pollInterval = s.pollInterval := rfl
@[simp] theorem place_pollTimer (s : State) (x : List PostedWrite) : (s.place x).pollTimer = s.pollTimer := rfl
@[simp] theorem place_reader (s : State) (x : List PostedWrite) : (s.place x).reader = s.reader := rfl
@[simp] theorem place_buffer (s : State) (x : List PostedWrite) : (s.place x).buffer = s.buffer := rfl
@[simp] theorem place_execution (s : State) (x : List PostedWrite) : (s.place x).execution = s.execution := rfl
@[simp] theorem place_lastRetired (s : State) (x : List PostedWrite) : (s.place x).lastRetired = s.lastRetired := rfl
@[simp] theorem place_rereadRequest (s : State) (x : List PostedWrite) : (s.place x).rereadRequest = s.rereadRequest := rfl
@[simp] theorem place_windows (s : State) (x : List PostedWrite) : (s.place x).windows = s.windows := rfl
@[simp] theorem place_faultPresent (s : State) (x : List PostedWrite) : (s.place x).faultPresent = s.faultPresent := rfl
@[simp] theorem place_stallOrigin (s : State) (x : List PostedWrite) : (s.place x).stallOrigin = s.stallOrigin := rfl
@[simp] theorem place_latch (s : State) (x : List PostedWrite) : (s.place x).latch = s.latch := rfl
@[simp] theorem place_sites (s : State) (x : List PostedWrite) : (s.place x).sites = s.sites := rfl
@[simp] theorem place_editions (s : State) (x : List PostedWrite) : (s.place x).editions = s.editions := rfl
@[simp] theorem place_deliveries (s : State) (x : List PostedWrite) : (s.place x).deliveries = s.deliveries := rfl
@[simp] theorem place_releaseCounter (s : State) (x : List PostedWrite) : (s.place x).releaseCounter = s.releaseCounter := rfl
@[simp] theorem place_targets (s : State) (x : List PostedWrite) : (s.place x).targets = s.targets := rfl
@[simp] theorem place_planners (s : State) (x : List PostedWrite) : (s.place x).planners = s.planners := rfl
@[simp] theorem place_engines (s : State) (x : List PostedWrite) : (s.place x).engines = s.engines := rfl
@[simp] theorem place_lanes (s : State) (x : List PostedWrite) : (s.place x).lanes = s.lanes := rfl
@[simp] theorem place_writeIndex (s : State) (x : List PostedWrite) : (s.place x).writeIndex = s.writeIndex := rfl
@[simp] theorem place_readIndex (s : State) (x : List PostedWrite) : (s.place x).readIndex = s.readIndex := rfl
@[simp] theorem place_heldNotes (s : State) (x : List PostedWrite) : (s.place x).heldNotes = s.heldNotes := rfl
@[simp] theorem place_roomReadInFlight (s : State) (x : List PostedWrite) : (s.place x).roomReadInFlight = s.roomReadInFlight := rfl
@[simp] theorem place_notesFull (s : State) (x : List PostedWrite) : (s.place x).notesFull = s.notesFull := rfl
@[simp] theorem place_interruptOutstanding (s : State) (x : List PostedWrite) : (s.place x).interruptOutstanding = s.interruptOutstanding := rfl
@[simp] theorem place_freeze (s : State) (x : List PostedWrite) : (s.place x).freeze = s.freeze := rfl
@[simp] theorem place_rewrites (s : State) (x : List PostedWrite) : (s.place x).rewrites = s.rewrites := rfl
@[simp] theorem place_clock (s : State) (x : List PostedWrite) : (s.place x).clock = s.clock := rfl

/-! ### What a table reads after its own update -/

@[simp] theorem setSite_site_same (s : State) (i : Fin 16) (x : SiteRecord) : (s.setSite i x).site i = x := by
  simp [State.setSite, State.site]

theorem setSite_site (s : State) (i j : Fin 16) (x : SiteRecord) :
    (s.setSite i x).site j = if i = j then x else s.site j := by
  simp [State.setSite, State.site, getAt_putAt]

@[simp] theorem setEngine_site (s : State) (i : Fin 16) (x : Engine) (j : Fin 16) : (s.setEngine i x).site j = s.site j := rfl
@[simp] theorem setPlanner_site (s : State) (i : Fin 16) (x : Planner) (j : Fin 16) : (s.setPlanner i x).site j = s.site j := rfl
@[simp] theorem setLane_site (s : State) (i : Fin 4) (x : Lane) (j : Fin 16) : (s.setLane i x).site j = s.site j := rfl
@[simp] theorem setEdition_site (s : State) (i : Fin 32) (x : Edition) (j : Fin 16) : (s.setEdition i x).site j = s.site j := rfl
@[simp] theorem setSlot_site (s : State) (i : Fin 4096) (x : Slot) (j : Fin 16) : (s.setSlot i x).site j = s.site j := rfl
@[simp] theorem hand_site (s : State) (x : Handing) (j : Fin 16) : (s.hand x).site j = s.site j := rfl
@[simp] theorem handAll_site (s : State) (x : List Handing) (j : Fin 16) : (s.handAll x).site j = s.site j := rfl
@[simp] theorem place_site (s : State) (x : List PostedWrite) (j : Fin 16) : (s.place x).site j = s.site j := rfl

@[simp] theorem setEngine_engine_same (s : State) (i : Fin 16) (x : Engine) : (s.setEngine i x).engine i = x := by
  simp [State.setEngine, State.engine]

theorem setEngine_engine (s : State) (i j : Fin 16) (x : Engine) :
    (s.setEngine i x).engine j = if i = j then x else s.engine j := by
  simp [State.setEngine, State.engine, getAt_putAt]

@[simp] theorem setSite_engine (s : State) (i : Fin 16) (x : SiteRecord) (j : Fin 16) : (s.setSite i x).engine j = s.engine j := rfl
@[simp] theorem setPlanner_engine (s : State) (i : Fin 16) (x : Planner) (j : Fin 16) : (s.setPlanner i x).engine j = s.engine j := rfl
@[simp] theorem setLane_engine (s : State) (i : Fin 4) (x : Lane) (j : Fin 16) : (s.setLane i x).engine j = s.engine j := rfl
@[simp] theorem setEdition_engine (s : State) (i : Fin 32) (x : Edition) (j : Fin 16) : (s.setEdition i x).engine j = s.engine j := rfl
@[simp] theorem setSlot_engine (s : State) (i : Fin 4096) (x : Slot) (j : Fin 16) : (s.setSlot i x).engine j = s.engine j := rfl
@[simp] theorem hand_engine (s : State) (x : Handing) (j : Fin 16) : (s.hand x).engine j = s.engine j := rfl
@[simp] theorem handAll_engine (s : State) (x : List Handing) (j : Fin 16) : (s.handAll x).engine j = s.engine j := rfl
@[simp] theorem place_engine (s : State) (x : List PostedWrite) (j : Fin 16) : (s.place x).engine j = s.engine j := rfl

@[simp] theorem setPlanner_planner_same (s : State) (i : Fin 16) (x : Planner) : (s.setPlanner i x).planner i = x := by
  simp [State.setPlanner, State.planner]

theorem setPlanner_planner (s : State) (i j : Fin 16) (x : Planner) :
    (s.setPlanner i x).planner j = if i = j then x else s.planner j := by
  simp [State.setPlanner, State.planner, getAt_putAt]

@[simp] theorem setSite_planner (s : State) (i : Fin 16) (x : SiteRecord) (j : Fin 16) : (s.setSite i x).planner j = s.planner j := rfl
@[simp] theorem setEngine_planner (s : State) (i : Fin 16) (x : Engine) (j : Fin 16) : (s.setEngine i x).planner j = s.planner j := rfl
@[simp] theorem setLane_planner (s : State) (i : Fin 4) (x : Lane) (j : Fin 16) : (s.setLane i x).planner j = s.planner j := rfl
@[simp] theorem setEdition_planner (s : State) (i : Fin 32) (x : Edition) (j : Fin 16) : (s.setEdition i x).planner j = s.planner j := rfl
@[simp] theorem setSlot_planner (s : State) (i : Fin 4096) (x : Slot) (j : Fin 16) : (s.setSlot i x).planner j = s.planner j := rfl
@[simp] theorem hand_planner (s : State) (x : Handing) (j : Fin 16) : (s.hand x).planner j = s.planner j := rfl
@[simp] theorem handAll_planner (s : State) (x : List Handing) (j : Fin 16) : (s.handAll x).planner j = s.planner j := rfl
@[simp] theorem place_planner (s : State) (x : List PostedWrite) (j : Fin 16) : (s.place x).planner j = s.planner j := rfl

@[simp] theorem setLane_lane_same (s : State) (i : Fin 4) (x : Lane) : (s.setLane i x).lane i = x := by
  simp [State.setLane, State.lane]

theorem setLane_lane (s : State) (i j : Fin 4) (x : Lane) :
    (s.setLane i x).lane j = if i = j then x else s.lane j := by
  simp [State.setLane, State.lane, getAt_putAt]

@[simp] theorem setSite_lane (s : State) (i : Fin 16) (x : SiteRecord) (j : Fin 4) : (s.setSite i x).lane j = s.lane j := rfl
@[simp] theorem setEngine_lane (s : State) (i : Fin 16) (x : Engine) (j : Fin 4) : (s.setEngine i x).lane j = s.lane j := rfl
@[simp] theorem setPlanner_lane (s : State) (i : Fin 16) (x : Planner) (j : Fin 4) : (s.setPlanner i x).lane j = s.lane j := rfl
@[simp] theorem setEdition_lane (s : State) (i : Fin 32) (x : Edition) (j : Fin 4) : (s.setEdition i x).lane j = s.lane j := rfl
@[simp] theorem setSlot_lane (s : State) (i : Fin 4096) (x : Slot) (j : Fin 4) : (s.setSlot i x).lane j = s.lane j := rfl
@[simp] theorem hand_lane (s : State) (x : Handing) (j : Fin 4) : (s.hand x).lane j = s.lane j := rfl
@[simp] theorem handAll_lane (s : State) (x : List Handing) (j : Fin 4) : (s.handAll x).lane j = s.lane j := rfl
@[simp] theorem place_lane (s : State) (x : List PostedWrite) (j : Fin 4) : (s.place x).lane j = s.lane j := rfl

@[simp] theorem setEdition_edition_same (s : State) (i : Fin 32) (x : Edition) : (s.setEdition i x).edition i = x := by
  simp [State.setEdition, State.edition]

theorem setEdition_edition (s : State) (i j : Fin 32) (x : Edition) :
    (s.setEdition i x).edition j = if i = j then x else s.edition j := by
  simp [State.setEdition, State.edition, getAt_putAt]

@[simp] theorem setSite_edition (s : State) (i : Fin 16) (x : SiteRecord) (j : Fin 32) : (s.setSite i x).edition j = s.edition j := rfl
@[simp] theorem setEngine_edition (s : State) (i : Fin 16) (x : Engine) (j : Fin 32) : (s.setEngine i x).edition j = s.edition j := rfl
@[simp] theorem setPlanner_edition (s : State) (i : Fin 16) (x : Planner) (j : Fin 32) : (s.setPlanner i x).edition j = s.edition j := rfl
@[simp] theorem setLane_edition (s : State) (i : Fin 4) (x : Lane) (j : Fin 32) : (s.setLane i x).edition j = s.edition j := rfl
@[simp] theorem setSlot_edition (s : State) (i : Fin 4096) (x : Slot) (j : Fin 32) : (s.setSlot i x).edition j = s.edition j := rfl
@[simp] theorem hand_edition (s : State) (x : Handing) (j : Fin 32) : (s.hand x).edition j = s.edition j := rfl
@[simp] theorem handAll_edition (s : State) (x : List Handing) (j : Fin 32) : (s.handAll x).edition j = s.edition j := rfl
@[simp] theorem place_edition (s : State) (x : List PostedWrite) (j : Fin 32) : (s.place x).edition j = s.edition j := rfl

@[simp] theorem setSlot_slot_same (s : State) (i : Fin 4096) (x : Slot) : (s.setSlot i x).slot i = x := by
  simp [State.setSlot, State.slot]

theorem setSlot_slot (s : State) (i j : Fin 4096) (x : Slot) :
    (s.setSlot i x).slot j = if i = j then x else s.slot j := by
  simp [State.setSlot, State.slot, getAt_putAt]

@[simp] theorem setSite_slot (s : State) (i : Fin 16) (x : SiteRecord) (j : Fin 4096) : (s.setSite i x).slot j = s.slot j := rfl
@[simp] theorem setEngine_slot (s : State) (i : Fin 16) (x : Engine) (j : Fin 4096) : (s.setEngine i x).slot j = s.slot j := rfl
@[simp] theorem setPlanner_slot (s : State) (i : Fin 16) (x : Planner) (j : Fin 4096) : (s.setPlanner i x).slot j = s.slot j := rfl
@[simp] theorem setLane_slot (s : State) (i : Fin 4) (x : Lane) (j : Fin 4096) : (s.setLane i x).slot j = s.slot j := rfl
@[simp] theorem setEdition_slot (s : State) (i : Fin 32) (x : Edition) (j : Fin 4096) : (s.setEdition i x).slot j = s.slot j := rfl
@[simp] theorem hand_slot (s : State) (x : Handing) (j : Fin 4096) : (s.hand x).slot j = s.slot j := rfl
@[simp] theorem handAll_slot (s : State) (x : List Handing) (j : Fin 4096) : (s.handAll x).slot j = s.slot j := rfl
@[simp] theorem place_slot (s : State) (x : List PostedWrite) (j : Fin 4096) : (s.place x).slot j = s.slot j := rfl

end Sys2Proof.Machine
end

