-- ==== Sys2Proof/Laws/Outline.lean ====
section
/-! SUPPORT. The writer, the engines, the delivery table, the planners, the target unit and the arbiter
leave the outline of the block alone. -/

namespace Sys2Proof.Machine

/-- A fold of steps that leave the outline leaves it. -/
theorem foldl_outline {α : Type} (f : State → α → State) (h : ∀ s a, (f s a).outline = s.outline)
    (l : List α) (s : State) : (l.foldl f s).outline = s.outline := by
  induction l generalizing s with
  | nil => rfl
  | cons a l ih => simp [ih, h]

@[simp] theorem setEngine_outline (s : State) (i x) : (s.setEngine i x).outline = s.outline := rfl
@[simp] theorem setPlanner_outline (s : State) (i x) : (s.setPlanner i x).outline = s.outline := rfl
@[simp] theorem setLane_outline (s : State) (i x) : (s.setLane i x).outline = s.outline := rfl
@[simp] theorem setSlot_outline (s : State) (i x) : (s.setSlot i x).outline = s.outline := rfl
@[simp] theorem hand_outline (s : State) (x) : (s.hand x).outline = s.outline := rfl
@[simp] theorem handAll_outline (s : State) (x) : (s.handAll x).outline = s.outline := rfl
@[simp] theorem place_outline (s : State) (x) : (s.place x).outline = s.outline := rfl
@[simp] theorem issueRead_outline (s : State) (k a) : (s.issueRead k a).outline = s.outline := rfl
@[simp] theorem issueHeaderRead_outline (s : State) (k a) :
    (s.issueHeaderRead k a).outline = s.outline := rfl
@[simp] theorem withdrawGrants_outline (s : State) (l) : (s.withdrawGrants l).outline = s.outline := rfl

/-! ### The writer -/

@[simp] theorem writerWrite_outline (s : State) (o d) : (s.writerWrite o d).outline = s.outline := by
  unfold State.writerWrite; split <;> simp
@[simp] theorem askRoom_outline (s : State) : s.askRoom.outline = s.outline := by
  unfold State.askRoom; split <;> rfl
@[simp] theorem setNotesFull_outline (s : State) : s.setNotesFull.outline = s.outline := by
  unfold State.setNotesFull; split <;> simp <;> rfl
@[simp] theorem clearNotesFull_outline (s : State) : s.clearNotesFull.outline = s.outline := by
  unfold State.clearNotesFull; split <;> simp <;> rfl
@[simp] theorem raiseMsi_outline (s : State) : s.raiseMsi.outline = s.outline := by
  unfold State.raiseMsi; split
  · rfl
  · split <;> rfl
@[simp] theorem writeNote_outline (s : State) (n) : (s.writeNote n).outline = s.outline := by
  unfold State.writeNote; split <;> simp <;> rfl
@[simp] theorem takeNote_outline (s : State) (n) : (s.takeNote n).outline = s.outline := by
  unfold State.takeNote; repeat' split
  all_goals simp <;> rfl
@[simp] theorem takeHeld_outline (l : List Note) (s : State) : (takeHeld l s).outline = s.outline := by
  induction l generalizing s with
  | nil => rfl
  | cons n l ih =>
    unfold takeHeld; split
    · simp [ih]
    · simp; rfl
@[simp] theorem takeReadIndex_outline (s : State) (v r) : (s.takeReadIndex v r).outline = s.outline := by
  unfold State.takeReadIndex
  simp only [takeHeld_outline, apply_ite State.outline, clearNotesFull_outline, ite_self]; rfl
@[simp] theorem rewrite_outline (s : State) (k) : (s.rewrite k).outline = s.outline := by
  unfold State.rewrite; split <;> simp <;> rfl
@[simp] theorem takeRewrite_outline (s : State) (k) : (s.takeRewrite k).outline = s.outline := by
  unfold State.takeRewrite; split
  · split <;> simp
  · simp
@[simp] theorem perform_outline (s : State) (h) : (s.perform h).outline = s.outline := by
  unfold State.perform; split <;> simp
@[simp] theorem flush_outline (s : State) : s.flush.outline = s.outline := by
  unfold State.flush; rw [foldl_outline _ perform_outline]; rfl

/-! ### Engines, entries, planners, targets -/

@[simp] theorem discardMeasurement_outline (s : State) (i) :
    (s.discardMeasurement i).outline = s.outline := rfl
@[simp] theorem discardIfNoSegment_outline (s : State) (i) :
    (s.discardIfNoSegment i).outline = s.outline := by
  unfold State.discardIfNoSegment; split <;> simp
@[simp] theorem dropMessages_outline (s : State) (i g) : (s.dropMessages i g).outline = s.outline := by
  unfold State.dropMessages; simp only; split <;> simp
@[simp] theorem releaseMessages_outline (s : State) (i g) :
    (s.releaseMessages i g).outline = s.outline := by
  unfold State.releaseMessages; simp only; split <;> simp
@[simp] theorem joinList_outline (s : State) (i m) : (s.joinList i m).outline = s.outline := rfl
@[simp] theorem forgetHandle_outline (s : State) (i h) : (s.forgetHandle i h).outline = s.outline := by
  unfold State.forgetHandle; simp
@[simp] theorem queueWithdraw_outline (s : State) (i h) :
    (s.queueWithdraw i h).outline = s.outline := rfl
@[simp] theorem handFrame_outline (s : State) (i l f) : (s.handFrame i l f).outline = s.outline := by
  unfold State.handFrame; simp only; split <;> simp
@[simp] theorem writeEntry_outline (s : State) (i d) : (s.writeEntry i d).outline = s.outline := by
  unfold State.writeEntry; simp only; split <;> simp
@[simp] theorem takeEntry_outline (s : State) (i d) : (s.takeEntry i d).outline = s.outline := by
  unfold State.takeEntry; simp
@[simp] theorem freeEntry_outline (s : State) (i) : (s.freeEntry i).outline = s.outline := by
  unfold State.freeEntry; split <;> simp
@[simp] theorem withdrawEntry_outline (s : State) (i d) : (s.withdrawEntry i d).outline = s.outline := by
  unfold State.withdrawEntry; simp
@[simp] theorem deliver_outline (s : State) (i d) : (s.deliver i d).outline = s.outline := by
  unfold State.deliver; simp
@[simp] theorem answerReceipt_outline (s : State) (i d c) :
    (s.answerReceipt i d c).outline = s.outline := by
  unfold State.answerReceipt; simp only; repeat' split
  all_goals simp
@[simp] theorem ordinaryReceipt_outline (s : State) (i d c) :
    (s.ordinaryReceipt i d c).outline = s.outline := by
  unfold State.ordinaryReceipt; simp only; repeat' split
  all_goals simp
@[simp] theorem refuseEntry_outline (s : State) (i d r) : (s.refuseEntry i d r).outline = s.outline := by
  unfold State.refuseEntry; split <;> simp
@[simp] theorem plateEntry_outline (s : State) (i d) : (s.plateEntry i d).outline = s.outline := by
  unfold State.plateEntry; split <;> simp
@[simp] theorem tooLateEntry_outline (s : State) (i d) : (s.tooLateEntry i d).outline = s.outline := by
  unfold State.tooLateEntry; simp only; split <;> simp
@[simp] theorem failEntry_outline (s : State) (i d r) : (s.failEntry i d r).outline = s.outline := by
  unfold State.failEntry; split <;> simp
@[simp] theorem loseEntry_outline (s : State) (i) : (s.loseEntry i).outline = s.outline := by
  unfold State.loseEntry; repeat' split
  all_goals simp
@[simp] theorem storeEntry_outline (s : State) (p) : (s.storeEntry p).outline = s.outline := rfl
@[simp] theorem replanNow_outline (s : State) (i) : (s.replanNow i).outline = s.outline := by
  unfold State.replanNow; simp [foldl_outline _ storeEntry_outline]
@[simp] theorem replan_outline (s : State) (i) : (s.replan i).outline = s.outline := by
  unfold State.replan; split <;> simp
@[simp] theorem replanAll_outline (s : State) (l) : (s.replanAll l).outline = s.outline :=
  foldl_outline _ replan_outline l s
@[simp] theorem beginMeasurement_outline (s : State) (i) :
    (s.beginMeasurement i).outline = s.outline := rfl
@[simp] theorem closeMeasurement_outline (s : State) (i x) :
    (s.closeMeasurement i x).outline = s.outline := by
  unfold State.closeMeasurement; simp only; repeat' split
  all_goals simp
@[simp] theorem measure_outline (s : State) (i a) : (s.measure i a).outline = s.outline := by
  unfold State.measure; simp only; repeat' split
  all_goals simp
@[simp] theorem setTarget_outline (s : State) (e i t) : (s.setTarget e i t).outline = s.outline := by
  unfold State.setTarget; simp only; split <;> rfl
@[simp] theorem storeTargetDeadlines_outline (s : State) (i) :
    (s.storeTargetDeadlines i).outline = s.outline := by
  unfold State.storeTargetDeadlines
  exact foldl_outline _ (fun s e => by simp only; split <;> simp) _ s
@[simp] theorem returnTargets_outline (s : State) (i) : (s.returnTargets i).outline = s.outline :=
  foldl_outline _ (fun s e => by simp) _ s
@[simp] theorem confirmTarget_outline (s : State) (i c n) :
    (s.confirmTarget i c n).outline = s.outline := by
  unfold State.confirmTarget; simp only; repeat' split
  all_goals simp
@[simp] theorem computeTarget_outline (s : State) (e v i) :
    (s.computeTarget e v i).1.outline = s.outline := by
  unfold State.computeTarget; simp only; repeat' split
  all_goals simp

/-! ### Sites and lanes -/

@[simp] theorem lossRule_outline (s : State) (i) : (s.lossRule i).outline = s.outline := by
  unfold State.lossRule; simp [foldl_outline _ loseEntry_outline]
@[simp] theorem siteLost_outline (s : State) (i c) : (s.siteLost i c).outline = s.outline := by
  unfold State.siteLost; simp
@[simp] theorem siteMove_outline (s : State) (i) : (s.siteMove i).outline = s.outline := by
  unfold State.siteMove; simp
@[simp] theorem laneLoss_outline (s : State) (i) : (s.laneLoss i).outline = s.outline := by
  unfold State.laneLoss; split <;> simp
@[simp] theorem siteOnline_outline (s : State) (i) : (s.siteOnline i).outline = s.outline := by
  unfold State.siteOnline; simp
@[simp] theorem siteEnabled_outline (s : State) (i) : (s.siteEnabled i).outline = s.outline := by
  unfold State.siteEnabled; simp
@[simp] theorem siteDisabled_outline (s : State) (i) : (s.siteDisabled i).outline = s.outline := by
  unfold State.siteDisabled; simp
@[simp] theorem laneChanged_outline (s : State) (l) : (s.laneChanged l).outline = s.outline := by
  unfold State.laneChanged; simp
@[simp] theorem laneUp_outline (s : State) (l) : (s.laneUp l).outline = s.outline := by
  unfold State.laneUp; simp
@[simp] theorem hearFrame_outline (s : State) (l) : (s.hearFrame l).outline = s.outline := by
  unfold State.hearFrame; split <;> simp

/-! ### The arbiter and the end of an event -/

@[simp] theorem failAndReplan_outline (s : State) (i d r) :
    (s.failAndReplan i d r).outline = s.outline := by
  unfold State.failAndReplan; split <;> simp
@[simp] theorem supplySegment_outline (s : State) (i l h d o n r) :
    (s.supplySegment i l h d o n r).1.outline = s.outline := by
  unfold State.supplySegment; split
  · simp
  · simp; split <;> simp
@[simp] theorem supplyResend_outline (s : State) (i l m) :
    (s.supplyResend i l m).1.outline = s.outline := by
  unfold State.supplyResend; simp only; repeat' split
  all_goals simp
@[simp] theorem supplyWithdraw_outline (s : State) (i l h) :
    (s.supplyWithdraw i l h).outline = s.outline := by unfold State.supplyWithdraw; simp
@[simp] theorem supplyTarget_outline (s : State) (i l e) :
    (s.supplyTarget i l e).1.outline = s.outline := by
  unfold State.supplyTarget; simp only; split <;> simp
@[simp] theorem supplyOffer_outline (s : State) (i l j d) :
    (s.supplyOffer i l j d).outline = s.outline := by unfold State.supplyOffer; simp
@[simp] theorem supplyHello_outline (s : State) (i l) :
    (s.supplyHello i l).outline = s.outline := by unfold State.supplyHello; simp
@[simp] theorem supplyProbe_outline (s : State) (i l) :
    (s.supplyProbe i l).outline = s.outline := by unfold State.supplyProbe; simp
@[simp] theorem supply_outline (s : State) (i l x) : (s.supply i l x).1.outline = s.outline := by
  unfold State.supply; split
  · simp
  · simp
  · simp
  · simp
  · split <;> simp
  · split <;> simp
  · simp
  · simp
@[simp] theorem grant_outline (s : State) (l a b) : (s.grant l a b).1.outline = s.outline := by
  unfold State.grant; simp [foldl_outline _ storeTargetDeadlines_outline]
@[simp] theorem arbitrate_outline (n l w) (s : State) : (arbitrate n l w s).outline = s.outline := by
  induction n generalizing w s with
  | zero => rfl
  | succ n ih =>
    unfold arbitrate; simp only
    split
    · split
      · split
        · rfl
        · exact ih _ _
      · split
        · rfl
        · split
          · simp
          · rw [ih]; simp
          · rw [ih]; simp
    · rfl
@[simp] theorem arbitrateLane_outline (s : State) (l) : (s.arbitrateLane l).outline = s.outline := by
  unfold State.arbitrateLane; split <;> simp
@[simp] theorem arbitrateAll_outline (s : State) : s.arbitrateAll.outline = s.outline :=
  foldl_outline _ arbitrateLane_outline _ s
@[simp] theorem haltCleanup_outline (s : State) : s.haltCleanup.outline = s.outline := by
  unfold State.haltCleanup; split <;> rfl
@[simp] theorem finish_outline (s : State) : s.finish.outline = s.outline := by
  unfold State.finish; simp

end Sys2Proof.Machine
end

