-- ==== Sys2Proof/Laws/Queue.lean ====
section
/-! SUPPORT. The posted-write queue: the tables' and engines' operations leave it alone, the writer and the
end of an event only add to its end. -/

namespace Sys2Proof.Machine

/-- A fold of steps that leave the queue leaves it. -/
theorem foldl_queue {α : Type} (f : State → α → State) (h : ∀ s a, (f s a).queue = s.queue)
    (l : List α) (s : State) : (l.foldl f s).queue = s.queue := by
  induction l generalizing s with
  | nil => rfl
  | cons a l ih => simp [ih, h]

@[simp] theorem issueRead_queue (s : State) (k a) : (s.issueRead k a).queue = s.queue := rfl
@[simp] theorem withdrawGrants_queue (s : State) (l) : (s.withdrawGrants l).queue = s.queue := rfl

/-! ### Engines, entries, planners, targets -/

@[simp] theorem discardMeasurement_queue (s : State) (i) :
    (s.discardMeasurement i).queue = s.queue := rfl
@[simp] theorem discardIfNoSegment_queue (s : State) (i) :
    (s.discardIfNoSegment i).queue = s.queue := by
  unfold State.discardIfNoSegment; split <;> simp
@[simp] theorem dropMessages_queue (s : State) (i g) : (s.dropMessages i g).queue = s.queue := by
  unfold State.dropMessages; simp only; split <;> simp
@[simp] theorem releaseMessages_queue (s : State) (i g) :
    (s.releaseMessages i g).queue = s.queue := by
  unfold State.releaseMessages; simp only; split <;> simp
@[simp] theorem joinList_queue (s : State) (i m) : (s.joinList i m).queue = s.queue := rfl
@[simp] theorem forgetHandle_queue (s : State) (i h) : (s.forgetHandle i h).queue = s.queue := by
  unfold State.forgetHandle; simp
@[simp] theorem queueWithdraw_queue (s : State) (i h) :
    (s.queueWithdraw i h).queue = s.queue := rfl
@[simp] theorem handFrame_queue (s : State) (i l f) : (s.handFrame i l f).queue = s.queue := by
  unfold State.handFrame; simp only; split <;> simp
@[simp] theorem writeEntry_queue (s : State) (i d) : (s.writeEntry i d).queue = s.queue := by
  unfold State.writeEntry; simp only; split <;> simp
@[simp] theorem takeEntry_queue (s : State) (i d) : (s.takeEntry i d).queue = s.queue := by
  unfold State.takeEntry; simp
@[simp] theorem freeEntry_queue (s : State) (i) : (s.freeEntry i).queue = s.queue := by
  unfold State.freeEntry; split <;> simp
@[simp] theorem withdrawEntry_queue (s : State) (i d) : (s.withdrawEntry i d).queue = s.queue := by
  unfold State.withdrawEntry; simp
@[simp] theorem deliver_queue (s : State) (i d) : (s.deliver i d).queue = s.queue := by
  unfold State.deliver; simp
@[simp] theorem answerReceipt_queue (s : State) (i d c) :
    (s.answerReceipt i d c).queue = s.queue := by
  unfold State.answerReceipt; simp only; repeat' split
  all_goals simp
@[simp] theorem ordinaryReceipt_queue (s : State) (i d c) :
    (s.ordinaryReceipt i d c).queue = s.queue := by
  unfold State.ordinaryReceipt; simp only; repeat' split
  all_goals simp
@[simp] theorem refuseEntry_queue (s : State) (i d r) : (s.refuseEntry i d r).queue = s.queue := by
  unfold State.refuseEntry; split <;> simp
@[simp] theorem plateEntry_queue (s : State) (i d) : (s.plateEntry i d).queue = s.queue := by
  unfold State.plateEntry; split <;> simp
@[simp] theorem tooLateEntry_queue (s : State) (i d) : (s.tooLateEntry i d).queue = s.queue := by
  unfold State.tooLateEntry; simp only; split <;> simp
@[simp] theorem failEntry_queue (s : State) (i d r) : (s.failEntry i d r).queue = s.queue := by
  unfold State.failEntry; split <;> simp
@[simp] theorem loseEntry_queue (s : State) (i) : (s.loseEntry i).queue = s.queue := by
  unfold State.loseEntry; repeat' split
  all_goals simp
@[simp] theorem storeEntry_queue (s : State) (p) : (s.storeEntry p).queue = s.queue := rfl
@[simp] theorem replanNow_queue (s : State) (i) : (s.replanNow i).queue = s.queue := by
  unfold State.replanNow; simp [foldl_queue _ storeEntry_queue]
@[simp] theorem replan_queue (s : State) (i) : (s.replan i).queue = s.queue := by
  unfold State.replan; split <;> simp
@[simp] theorem replanAll_queue (s : State) (l) : (s.replanAll l).queue = s.queue :=
  foldl_queue _ replan_queue l s
@[simp] theorem beginMeasurement_queue (s : State) (i) :
    (s.beginMeasurement i).queue = s.queue := rfl
@[simp] theorem closeMeasurement_queue (s : State) (i x) :
    (s.closeMeasurement i x).queue = s.queue := by
  unfold State.closeMeasurement; simp only; repeat' split
  all_goals simp
@[simp] theorem measure_queue (s : State) (i a) : (s.measure i a).queue = s.queue := by
  unfold State.measure; simp only; repeat' split
  all_goals simp
@[simp] theorem setTarget_queue (s : State) (e i t) : (s.setTarget e i t).queue = s.queue := by
  unfold State.setTarget; simp only; split <;> rfl
@[simp] theorem storeTargetDeadlines_queue (s : State) (i) :
    (s.storeTargetDeadlines i).queue = s.queue := by
  unfold State.storeTargetDeadlines
  exact foldl_queue _ (fun s e => by simp only; split <;> simp) _ s
@[simp] theorem returnTargets_queue (s : State) (i) : (s.returnTargets i).queue = s.queue :=
  foldl_queue _ (fun s e => by simp) _ s
@[simp] theorem confirmTarget_queue (s : State) (i c n) :
    (s.confirmTarget i c n).queue = s.queue := by
  unfold State.confirmTarget; simp only; repeat' split
  all_goals simp
@[simp] theorem computeTarget_queue (s : State) (e v i) :
    (s.computeTarget e v i).1.queue = s.queue := by
  unfold State.computeTarget; simp only; repeat' split
  all_goals simp

/-! ### Sites and lanes -/

@[simp] theorem lossRule_queue (s : State) (i) : (s.lossRule i).queue = s.queue := by
  unfold State.lossRule; simp [foldl_queue _ loseEntry_queue]
@[simp] theorem siteLost_queue (s : State) (i c) : (s.siteLost i c).queue = s.queue := by
  unfold State.siteLost; simp
@[simp] theorem siteMove_queue (s : State) (i) : (s.siteMove i).queue = s.queue := by
  unfold State.siteMove; simp
@[simp] theorem laneLoss_queue (s : State) (i) : (s.laneLoss i).queue = s.queue := by
  unfold State.laneLoss; split <;> simp
@[simp] theorem siteOnline_queue (s : State) (i) : (s.siteOnline i).queue = s.queue := by
  unfold State.siteOnline; simp
@[simp] theorem siteEnabled_queue (s : State) (i) : (s.siteEnabled i).queue = s.queue := by
  unfold State.siteEnabled; simp
@[simp] theorem siteDisabled_queue (s : State) (i) : (s.siteDisabled i).queue = s.queue := by
  unfold State.siteDisabled; simp
@[simp] theorem laneChanged_queue (s : State) (l) : (s.laneChanged l).queue = s.queue := by
  unfold State.laneChanged; simp
@[simp] theorem laneUp_queue (s : State) (l) : (s.laneUp l).queue = s.queue := by
  unfold State.laneUp; simp
@[simp] theorem hearFrame_queue (s : State) (l) : (s.hearFrame l).queue = s.queue := by
  unfold State.hearFrame; split <;> simp

/-! ### What an engine supplies -/

@[simp] theorem failAndReplan_queue (s : State) (i d r) :
    (s.failAndReplan i d r).queue = s.queue := by
  unfold State.failAndReplan; split <;> simp
@[simp] theorem supplySegment_queue (s : State) (i l h d o n r) :
    (s.supplySegment i l h d o n r).1.queue = s.queue := by
  unfold State.supplySegment; split
  · simp
  · simp; split <;> simp
@[simp] theorem supplyResend_queue (s : State) (i l m) :
    (s.supplyResend i l m).1.queue = s.queue := by
  unfold State.supplyResend; simp only; repeat' split
  all_goals simp
@[simp] theorem supplyWithdraw_queue (s : State) (i l h) :
    (s.supplyWithdraw i l h).queue = s.queue := by unfold State.supplyWithdraw; simp
@[simp] theorem supplyTarget_queue (s : State) (i l e) :
    (s.supplyTarget i l e).1.queue = s.queue := by
  unfold State.supplyTarget; simp only; split <;> simp
@[simp] theorem supplyOffer_queue (s : State) (i l j d) :
    (s.supplyOffer i l j d).queue = s.queue := by unfold State.supplyOffer; simp
@[simp] theorem supplyHello_queue (s : State) (i l) :
    (s.supplyHello i l).queue = s.queue := by unfold State.supplyHello; simp
@[simp] theorem supplyProbe_queue (s : State) (i l) :
    (s.supplyProbe i l).queue = s.queue := by unfold State.supplyProbe; simp
@[simp] theorem supply_queue (s : State) (i l x) : (s.supply i l x).1.queue = s.queue := by
  unfold State.supply; split
  · simp
  · simp
  · simp
  · simp
  · split <;> simp
  · split <;> simp
  · simp
  · simp
/-! ### The writer and the end of an event -/

/-- The queue of the second state is that of the first with writes added at its end. -/
def Adds (s t : State) : Prop := s.queue <+: t.queue

theorem Adds.refl (s : State) : Adds s s := List.prefix_rfl
theorem Adds.of_eq {s t : State} (h : t.queue = s.queue) : Adds s t := by
  unfold Adds; rw [h]
theorem Adds.trans {s t u : State} (h : Adds s t) (h1 : Adds t u) : Adds s u :=
  List.IsPrefix.trans h h1

/-- A fold of steps that only add to the queue only adds to it. -/
theorem foldl_adds {α : Type} (f : State → α → State) (h : ∀ s a, Adds s (f s a))
    (l : List α) (s : State) : Adds s (l.foldl f s) := by
  induction l generalizing s with
  | nil => exact Adds.refl s
  | cons a l ih => exact (h s a).trans (ih _)

theorem place_adds (s : State) (ws) : Adds s (s.place ws) := List.prefix_append _ _
theorem writerWrite_adds (s : State) (o d) : Adds s (s.writerWrite o d) := by
  unfold State.writerWrite; split
  · exact Adds.refl s
  · exact place_adds s _
theorem askRoom_adds (s : State) : Adds s s.askRoom := by
  unfold State.askRoom; split
  · exact Adds.refl s
  · exact Adds.of_eq rfl
theorem setNotesFull_adds (s : State) : Adds s s.setNotesFull := by
  unfold State.setNotesFull; split
  · exact Adds.refl s
  · exact (Adds.of_eq (t := { s with notesFull := true }) rfl).trans (writerWrite_adds _ _ _)
theorem clearNotesFull_adds (s : State) : Adds s s.clearNotesFull := by
  unfold State.clearNotesFull; split
  · exact (Adds.of_eq (t := { s with notesFull := false }) rfl).trans (writerWrite_adds _ _ _)
  · exact Adds.refl s
theorem raiseMsi_adds (s : State) : Adds s s.raiseMsi := by
  unfold State.raiseMsi; split
  · exact Adds.refl s
  · split
    · exact (place_adds s _).trans (Adds.of_eq rfl)
    · exact Adds.of_eq rfl
theorem writeNote_adds (s : State) (n) : Adds s (s.writeNote n) := by
  unfold State.writeNote; split
  · exact Adds.refl s
  · refine Adds.trans ?_ (raiseMsi_adds _)
    refine Adds.trans ?_ (place_adds _ _)
    exact (place_adds s _).trans (Adds.of_eq rfl)
theorem takeNote_adds (s : State) (n) : Adds s (s.takeNote n) := by
  unfold State.takeNote; repeat' split
  · exact Adds.refl s
  · exact askRoom_adds s
  · exact writeNote_adds s n
  · exact setNotesFull_adds s
  · exact (Adds.of_eq (t := { s with heldNotes := s.heldNotes ++ [n] }) rfl).trans (askRoom_adds _)
theorem takeHeld_adds (l : List Note) (s : State) : Adds s (takeHeld l s) := by
  induction l generalizing s with
  | nil => exact Adds.of_eq rfl
  | cons n l ih =>
    unfold takeHeld; split
    · exact (writeNote_adds s n).trans (ih _)
    · exact (Adds.of_eq (t := { s with heldNotes := [] }) rfl).trans (setNotesFull_adds _)
theorem rewrite_adds (s : State) (k) : Adds s (s.rewrite k) := by
  unfold State.rewrite; split
  · exact Adds.refl s
  · exact (Adds.of_eq (t := { s with rewrites := s.rewrites.step k }) rfl).trans (place_adds _ _)
theorem takeRewrite_adds (s : State) (k) : Adds s (s.takeRewrite k) := by
  unfold State.takeRewrite; repeat' split
  · exact Adds.refl s
  · exact rewrite_adds s _
  · exact rewrite_adds s _
theorem perform_adds (s : State) (h) : Adds s (s.perform h) := by
  unfold State.perform; split
  · exact takeNote_adds s _
  · exact takeRewrite_adds s _
  · exact place_adds s _
/-- The end of an event adds its writes at the end of the queue (R4, R180). -/
theorem flush_adds (s : State) : Adds s s.flush := by
  unfold State.flush
  exact (Adds.of_eq (t := { s with handed := [] }) rfl).trans (foldl_adds _ perform_adds _ _)
theorem grant_adds (s : State) (l a b) : Adds s (s.grant l a b).1 := by
  unfold State.grant
  refine Adds.trans ?_ (flush_adds _)
  exact Adds.of_eq (by simp [foldl_queue _ storeTargetDeadlines_queue])
theorem arbitrate_adds (n l w) (s : State) : Adds s (arbitrate n l w s) := by
  induction n generalizing w s with
  | zero => exact Adds.refl s
  | succ n ih =>
    unfold arbitrate; simp only
    split
    · split
      · split
        · exact Adds.refl s
        · exact ih _ _
      · split
        · exact Adds.of_eq rfl
        · split
          · exact grant_adds _ _ _ _
          · exact (grant_adds _ _ _ _).trans (ih _ _)
          · exact (grant_adds _ _ _ _).trans (ih _ _)
    · exact Adds.refl s
theorem arbitrateLane_adds (s : State) (l) : Adds s (s.arbitrateLane l) := by
  unfold State.arbitrateLane; split
  · exact Adds.refl s
  · exact arbitrate_adds _ _ _ s
theorem arbitrateAll_adds (s : State) : Adds s s.arbitrateAll := foldl_adds _ arbitrateLane_adds _ s
theorem haltCleanup_adds (s : State) : Adds s s.haltCleanup := by
  unfold State.haltCleanup; split
  · exact Adds.of_eq rfl
  · exact Adds.refl s
/-- The end of a command's event only adds to the queue. -/
theorem finish_adds (s : State) : Adds s s.finish := by
  unfold State.finish
  exact ((flush_adds s).trans (arbitrateAll_adds _)).trans (haltCleanup_adds _)

end Sys2Proof.Machine
end

