-- ==== Sys2Proof/Laws/Table.lean ====
section
/-! SUPPORT. The delivery table's questions, what an entry written reads as, and the tables that the writer
leaves alone. -/

namespace Sys2Proof.Machine

/-! ### Tables of fixed size -/

@[simp] theorem putAt_getAt {α : Type} {n : Nat} (v : Vector α n) (i : Fin n) :
    putAt v i (getAt v i) = v := by
  simp [getAt_eq, putAt]

@[simp] theorem putAt_putAt {α : Type} {n : Nat} (v : Vector α n) (i : Fin n) (x y : α) :
    putAt (putAt v i x) i y = putAt v i y := by
  simp [putAt]

/-- Tables that agree at every index are equal. -/
theorem table_ext {α : Type} {n : Nat} {v w : Vector α n} (h : ∀ i, getAt v i = getAt w i) : v = w := by
  ext k hk
  exact h ⟨k, hk⟩

/-! ### Entries -/

theorem setSlot_entry (s : State) (i j : Fin 4096) (x : Slot) :
    (s.setSlot i x).entry j = if i = j then x.use else s.entry j := by
  unfold State.entry; rw [setSlot_slot]; split <;> rfl

theorem entry_of_deliveries {s t : State} (h : t.deliveries = s.deliveries) (j : Fin 4096) :
    t.entry j = s.entry j := by
  unfold State.entry State.slot; rw [h]

theorem mem_scanInUse (l : List Slot) (n : Nat) (hn : n + l.length ≤ 4096) (i : Fin 4096) (d : Delivery) :
    (i, d) ∈ scanInUse l n ↔ ∃ k, ∃ h : k < l.length, n + k = i.val ∧ l[k].use = some d := by
  induction l generalizing n with
  | nil => simp [scanInUse]
  | cons x rest ih =>
    have h1 := ih (n + 1) (by simp at hn; omega)
    have h2 : (i, d) ∈ scanInUse (x :: rest) n ↔
        (n = i.val ∧ x.use = some d) ∨ (i, d) ∈ scanInUse rest (n + 1) := by
      simp only [scanInUse]
      have hm : n % 4096 = n := Nat.mod_eq_of_lt (by simp at hn; omega)
      have h4 : i = Fin.ofNat 4096 n ↔ n = i.val := by
        rw [Fin.ext_iff]; simp only [Fin.ofNat, hm]; omega
      cases hx : x.use with
      | none => simp
      | some e =>
        simp only [List.mem_cons, Prod.mk.injEq, Option.some.injEq, h4]
        constructor
        · rintro (⟨a, b⟩ | a)
          · exact .inl ⟨a, b.symm⟩
          · exact .inr a
        · rintro (⟨a, b⟩ | a)
          · exact .inl ⟨a, b.symm⟩
          · exact .inr a
    rw [h2, h1]
    constructor
    · rintro (⟨a, b⟩ | ⟨k, hk, a, b⟩)
      · exact ⟨0, by simp, a, b⟩
      · exact ⟨k + 1, by simp; omega, by omega, b⟩
    · rintro ⟨k, hk, a, b⟩
      cases k with
      | zero => exact .inl ⟨a, b⟩
      | succ k => exact .inr ⟨k, by simp at hk; omega, by omega, b⟩

/-- The entries in use are the entries that hold a delivery. -/
theorem mem_inUse (s : State) (i : Fin 4096) (d : Delivery) :
    (i, d) ∈ s.inUse ↔ s.entry i = some d := by
  unfold State.inUse
  rw [mem_scanInUse _ _ (by simp)]
  constructor
  · rintro ⟨k, hk, a, b⟩
    have h1 : k = i.val := by omega
    subst h1
    simpa [State.entry, State.slot, getAt_eq] using b
  · intro h
    exact ⟨i.val, by simp, by omega, by simpa [State.entry, State.slot, getAt_eq] using h⟩

/-! ### What the writer leaves alone -/

@[simp] theorem writerWrite_deliveries (s : State) (o d) : (s.writerWrite o d).deliveries = s.deliveries := by
  unfold State.writerWrite; split <;> rfl
@[simp] theorem writerWrite_targets (s : State) (o d) : (s.writerWrite o d).targets = s.targets := by
  unfold State.writerWrite; split <;> rfl
@[simp] theorem writerWrite_planners (s : State) (o d) : (s.writerWrite o d).planners = s.planners := by
  unfold State.writerWrite; split <;> rfl
@[simp] theorem writerWrite_engines (s : State) (o d) : (s.writerWrite o d).engines = s.engines := by
  unfold State.writerWrite; split <;> rfl
@[simp] theorem writerWrite_lanes (s : State) (o d) : (s.writerWrite o d).lanes = s.lanes := by
  unfold State.writerWrite; split <;> rfl
@[simp] theorem writerWrite_handed (s : State) (o d) : (s.writerWrite o d).handed = s.handed := by
  unfold State.writerWrite; split <;> rfl

@[simp] theorem askRoom_deliveries (s : State) : s.askRoom.deliveries = s.deliveries := by
  unfold State.askRoom; split <;> rfl
@[simp] theorem askRoom_targets (s : State) : s.askRoom.targets = s.targets := by
  unfold State.askRoom; split <;> rfl
@[simp] theorem askRoom_planners (s : State) : s.askRoom.planners = s.planners := by
  unfold State.askRoom; split <;> rfl
@[simp] theorem askRoom_engines (s : State) : s.askRoom.engines = s.engines := by
  unfold State.askRoom; split <;> rfl
@[simp] theorem askRoom_lanes (s : State) : s.askRoom.lanes = s.lanes := by
  unfold State.askRoom; split <;> rfl
@[simp] theorem askRoom_handed (s : State) : s.askRoom.handed = s.handed := by
  unfold State.askRoom; split <;> rfl

@[simp] theorem setNotesFull_deliveries (s : State) : s.setNotesFull.deliveries = s.deliveries := by
  unfold State.setNotesFull; split <;> simp
@[simp] theorem setNotesFull_targets (s : State) : s.setNotesFull.targets = s.targets := by
  unfold State.setNotesFull; split <;> simp
@[simp] theorem setNotesFull_planners (s : State) : s.setNotesFull.planners = s.planners := by
  unfold State.setNotesFull; split <;> simp
@[simp] theorem setNotesFull_engines (s : State) : s.setNotesFull.engines = s.engines := by
  unfold State.setNotesFull; split <;> simp
@[simp] theorem setNotesFull_lanes (s : State) : s.setNotesFull.lanes = s.lanes := by
  unfold State.setNotesFull; split <;> simp
@[simp] theorem setNotesFull_handed (s : State) : s.setNotesFull.handed = s.handed := by
  unfold State.setNotesFull; split <;> simp

@[simp] theorem clearNotesFull_deliveries (s : State) : s.clearNotesFull.deliveries = s.deliveries := by
  unfold State.clearNotesFull; split <;> simp
@[simp] theorem clearNotesFull_targets (s : State) : s.clearNotesFull.targets = s.targets := by
  unfold State.clearNotesFull; split <;> simp
@[simp] theorem clearNotesFull_planners (s : State) : s.clearNotesFull.planners = s.planners := by
  unfold State.clearNotesFull; split <;> simp
@[simp] theorem clearNotesFull_engines (s : State) : s.clearNotesFull.engines = s.engines := by
  unfold State.clearNotesFull; split <;> simp
@[simp] theorem clearNotesFull_lanes (s : State) : s.clearNotesFull.lanes = s.lanes := by
  unfold State.clearNotesFull; split <;> simp
@[simp] theorem clearNotesFull_handed (s : State) : s.clearNotesFull.handed = s.handed := by
  unfold State.clearNotesFull; split <;> simp

@[simp] theorem raiseMsi_deliveries (s : State) : s.raiseMsi.deliveries = s.deliveries := by
  unfold State.raiseMsi; repeat' split
  all_goals rfl
@[simp] theorem raiseMsi_targets (s : State) : s.raiseMsi.targets = s.targets := by
  unfold State.raiseMsi; repeat' split
  all_goals rfl
@[simp] theorem raiseMsi_planners (s : State) : s.raiseMsi.planners = s.planners := by
  unfold State.raiseMsi; repeat' split
  all_goals rfl
@[simp] theorem raiseMsi_engines (s : State) : s.raiseMsi.engines = s.engines := by
  unfold State.raiseMsi; repeat' split
  all_goals rfl
@[simp] theorem raiseMsi_lanes (s : State) : s.raiseMsi.lanes = s.lanes := by
  unfold State.raiseMsi; repeat' split
  all_goals rfl
@[simp] theorem raiseMsi_handed (s : State) : s.raiseMsi.handed = s.handed := by
  unfold State.raiseMsi; repeat' split
  all_goals rfl

@[simp] theorem writeNote_deliveries (s : State) (n) : (s.writeNote n).deliveries = s.deliveries := by
  unfold State.writeNote; split <;> simp
@[simp] theorem writeNote_targets (s : State) (n) : (s.writeNote n).targets = s.targets := by
  unfold State.writeNote; split <;> simp
@[simp] theorem writeNote_planners (s : State) (n) : (s.writeNote n).planners = s.planners := by
  unfold State.writeNote; split <;> simp
@[simp] theorem writeNote_engines (s : State) (n) : (s.writeNote n).engines = s.engines := by
  unfold State.writeNote; split <;> simp
@[simp] theorem writeNote_lanes (s : State) (n) : (s.writeNote n).lanes = s.lanes := by
  unfold State.writeNote; split <;> simp
@[simp] theorem writeNote_handed (s : State) (n) : (s.writeNote n).handed = s.handed := by
  unfold State.writeNote; split <;> simp

@[simp] theorem takeNote_deliveries (s : State) (n) : (s.takeNote n).deliveries = s.deliveries := by
  unfold State.takeNote; repeat' split
  all_goals simp
@[simp] theorem takeNote_targets (s : State) (n) : (s.takeNote n).targets = s.targets := by
  unfold State.takeNote; repeat' split
  all_goals simp
@[simp] theorem takeNote_planners (s : State) (n) : (s.takeNote n).planners = s.planners := by
  unfold State.takeNote; repeat' split
  all_goals simp
@[simp] theorem takeNote_engines (s : State) (n) : (s.takeNote n).engines = s.engines := by
  unfold State.takeNote; repeat' split
  all_goals simp
@[simp] theorem takeNote_lanes (s : State) (n) : (s.takeNote n).lanes = s.lanes := by
  unfold State.takeNote; repeat' split
  all_goals simp
@[simp] theorem takeNote_handed (s : State) (n) : (s.takeNote n).handed = s.handed := by
  unfold State.takeNote; repeat' split
  all_goals simp

@[simp] theorem rewrite_deliveries (s : State) (k) : (s.rewrite k).deliveries = s.deliveries := by
  unfold State.rewrite; split <;> rfl
@[simp] theorem rewrite_targets (s : State) (k) : (s.rewrite k).targets = s.targets := by
  unfold State.rewrite; split <;> rfl
@[simp] theorem rewrite_planners (s : State) (k) : (s.rewrite k).planners = s.planners := by
  unfold State.rewrite; split <;> rfl
@[simp] theorem rewrite_engines (s : State) (k) : (s.rewrite k).engines = s.engines := by
  unfold State.rewrite; split <;> rfl
@[simp] theorem rewrite_lanes (s : State) (k) : (s.rewrite k).lanes = s.lanes := by
  unfold State.rewrite; split <;> rfl
@[simp] theorem rewrite_handed (s : State) (k) : (s.rewrite k).handed = s.handed := by
  unfold State.rewrite; split <;> rfl

@[simp] theorem takeRewrite_deliveries (s : State) (k) : (s.takeRewrite k).deliveries = s.deliveries := by
  unfold State.takeRewrite; repeat' split
  all_goals simp
@[simp] theorem takeRewrite_targets (s : State) (k) : (s.takeRewrite k).targets = s.targets := by
  unfold State.takeRewrite; repeat' split
  all_goals simp
@[simp] theorem takeRewrite_planners (s : State) (k) : (s.takeRewrite k).planners = s.planners := by
  unfold State.takeRewrite; repeat' split
  all_goals simp
@[simp] theorem takeRewrite_engines (s : State) (k) : (s.takeRewrite k).engines = s.engines := by
  unfold State.takeRewrite; repeat' split
  all_goals simp
@[simp] theorem takeRewrite_lanes (s : State) (k) : (s.takeRewrite k).lanes = s.lanes := by
  unfold State.takeRewrite; repeat' split
  all_goals simp
@[simp] theorem takeRewrite_handed (s : State) (k) : (s.takeRewrite k).handed = s.handed := by
  unfold State.takeRewrite; repeat' split
  all_goals simp

@[simp] theorem perform_deliveries (s : State) (h) : (s.perform h).deliveries = s.deliveries := by
  unfold State.perform; split <;> simp
@[simp] theorem perform_targets (s : State) (h) : (s.perform h).targets = s.targets := by
  unfold State.perform; split <;> simp
@[simp] theorem perform_planners (s : State) (h) : (s.perform h).planners = s.planners := by
  unfold State.perform; split <;> simp
@[simp] theorem perform_engines (s : State) (h) : (s.perform h).engines = s.engines := by
  unfold State.perform; split <;> simp
@[simp] theorem perform_lanes (s : State) (h) : (s.perform h).lanes = s.lanes := by
  unfold State.perform; split <;> simp
@[simp] theorem perform_handed (s : State) (h) : (s.perform h).handed = s.handed := by
  unfold State.perform; split <;> simp

/-- A fold of hand-overs leaves what each of them leaves. -/
theorem foldl_perform {α : Type} (f : State → α) (h : ∀ s x, f (State.perform s x) = f s)
    (l : List Handing) (s : State) : f (l.foldl State.perform s) = f s := by
  induction l generalizing s with
  | nil => rfl
  | cons x l ih => simp [ih, h]

@[simp] theorem flush_deliveries (s : State) : s.flush.deliveries = s.deliveries :=
  foldl_perform State.deliveries perform_deliveries _ _
@[simp] theorem flush_targets (s : State) : s.flush.targets = s.targets :=
  foldl_perform State.targets perform_targets _ _
@[simp] theorem flush_planners (s : State) : s.flush.planners = s.planners :=
  foldl_perform State.planners perform_planners _ _
@[simp] theorem flush_engines (s : State) : s.flush.engines = s.engines :=
  foldl_perform State.engines perform_engines _ _
@[simp] theorem flush_lanes (s : State) : s.flush.lanes = s.lanes :=
  foldl_perform State.lanes perform_lanes _ _

/-- After the end of an event nothing is handed. -/
@[simp] theorem flush_handed (s : State) : s.flush.handed = [] :=
  foldl_perform State.handed perform_handed _ _

end Sys2Proof.Machine
end

