-- ==== Sys2Proof/Laws/Entries.lean ====
section
/-! SUPPORT. What the shared operations of the delivery table, the engines and the planners do: writing and
freeing an entry, and a replan, which moves no entry and judges prediction, AT_RISK and LATE alone. -/

namespace Sys2Proof.Machine

/-! ### The same but for what a replan judges -/

theorem replannedAs_refl (d : Delivery) : d.replannedAs d := ⟨rfl, id⟩

theorem replannedAs_trans {a b c : Delivery} (h : a.replannedAs b) (h1 : b.replannedAs c) :
    a.replannedAs c := by
  obtain ⟨h, h2⟩ := h
  obtain ⟨h1, h3⟩ := h1
  refine ⟨?_, fun x => h3 (h2 x)⟩
  rw [h1, h]

theorem settled_replannedAs (d : Delivery) : d.replannedAs d.settled := by
  unfold Delivery.settled; split
  · exact replannedAs_refl d
  · exact ⟨rfl, id⟩

theorem predictEntry_replannedAs (m f : Nat) (d : Delivery) : d.replannedAs (predictEntry m f d) :=
  ⟨rfl, id⟩

@[simp] theorem predictEntry_late (m f : Nat) (d : Delivery) : (predictEntry m f d).late = d.late := rfl

/-- The slots of two states read alike. -/
theorem slotBecomes_of_slot {s x : State} {j : Fin 4096} (h : x.slot j = s.slot j) :
    s.slotBecomes x j (s.entry j) := by
  have h1 : x.entry j = s.entry j := by unfold State.entry; rw [h]
  refine ⟨by rw [h], ?_⟩
  cases he : s.entry j with
  | none => exact h1.trans he
  | some d => exact ⟨d, h1.trans he, replannedAs_refl d⟩

theorem slotBecomes_trans {s x y : State} {j : Fin 4096} {o : Option Delivery}
    (h : s.slotBecomes x j o) (h1 : x.slotBecomes y j (x.entry j)) : s.slotBecomes y j o := by
  refine ⟨h1.1.trans h.1, ?_⟩
  cases o with
  | none =>
    have h2 := h.2; have h3 := h1.2
    simp only at h2; rw [h2] at h3; exact h3
  | some d =>
    obtain ⟨d1, h2, h3⟩ := h.2
    have h4 := h1.2; rw [h2] at h4
    obtain ⟨d2, h5, h6⟩ := h4
    exact ⟨d2, h5, replannedAs_trans h3 h6⟩

/-! ### Writing an entry -/

/-- What writing an entry makes of the table: that entry, as its flags settle, and no other. -/
theorem writeEntry_entry (s : State) (i j : Fin 4096) (d : Delivery) :
    (s.writeEntry i d).entry j = if i = j then some d.settled else s.entry j := by
  unfold State.writeEntry
  simp only
  split
  · next h => split
              · next h1 => subst h1; exact h
              · rfl
  · have h1 : ∀ t : State, ∀ p q, ((t.setPlanner p q).hand (.mirror (.delivery i))).entry j = t.entry j :=
      fun _ _ _ => rfl
    rw [h1, setSlot_entry]

theorem writeEntry_generation (s : State) (i j : Fin 4096) (d : Delivery) :
    ((s.writeEntry i d).slot j).generation = (s.slot j).generation := by
  unfold State.writeEntry
  simp only
  split
  · rfl
  · rw [hand_slot, setPlanner_slot, setSlot_slot]
    split
    · next h => subst h; rfl
    · rfl

@[simp] theorem writeEntry_engines (s : State) (i d) : (s.writeEntry i d).engines = s.engines := by
  unfold State.writeEntry; simp only; split <;> rfl
@[simp] theorem writeEntry_targets (s : State) (i d) : (s.writeEntry i d).targets = s.targets := by
  unfold State.writeEntry; simp only; split <;> rfl
@[simp] theorem writeEntry_lanes (s : State) (i d) : (s.writeEntry i d).lanes = s.lanes := by
  unfold State.writeEntry; simp only; split <;> rfl

/-- Writing an entry changes nothing of a planner but its order and what it will rewrite. -/
theorem writeEntry_planner (s : State) (i : Fin 4096) (d : Delivery) (k : Fin 16) :
    (s.writeEntry i d).planner k =
      { s.planner k with order := ((s.writeEntry i d).planner k).order,
                         absent := ((s.writeEntry i d).planner k).absent } := by
  unfold State.writeEntry
  simp only
  split
  · rfl
  · rw [hand_planner, setPlanner_planner]
    split
    · next h => subst h; rfl
    · rfl

/-! ### The engines -/

@[simp] theorem discardIfNoSegment_engines (s : State) (i) :
    (s.discardIfNoSegment i).engines = s.engines := by
  unfold State.discardIfNoSegment; split <;> rfl
@[simp] theorem dropMessages_deliveries (s : State) (i g) :
    (s.dropMessages i g).deliveries = s.deliveries := by
  unfold State.dropMessages State.discardIfNoSegment; simp only; repeat' split
  all_goals rfl
@[simp] theorem dropMessages_targets (s : State) (i g) : (s.dropMessages i g).targets = s.targets := by
  unfold State.dropMessages State.discardIfNoSegment; simp only; repeat' split
  all_goals rfl
@[simp] theorem dropMessages_lanes (s : State) (i g) : (s.dropMessages i g).lanes = s.lanes := by
  unfold State.dropMessages State.discardIfNoSegment; simp only; repeat' split
  all_goals rfl
@[simp] theorem releaseMessages_deliveries (s : State) (i g) :
    (s.releaseMessages i g).deliveries = s.deliveries := by
  unfold State.releaseMessages State.discardIfNoSegment; simp only; repeat' split
  all_goals rfl
@[simp] theorem releaseMessages_targets (s : State) (i g) :
    (s.releaseMessages i g).targets = s.targets := by
  unfold State.releaseMessages State.discardIfNoSegment; simp only; repeat' split
  all_goals rfl
@[simp] theorem releaseMessages_lanes (s : State) (i g) :
    (s.releaseMessages i g).lanes = s.lanes := by
  unfold State.releaseMessages State.discardIfNoSegment; simp only; repeat' split
  all_goals rfl

/-- A releasing answer as one engine. -/
theorem releaseMessages_engines (s : State) (i : Fin 16) (p : Message → Bool) :
    (s.releaseMessages i p).engines =
      putAt s.engines i ((s.engine i).answered (s.site i).receiptTimeout p) := by
  unfold State.releaseMessages Engine.answered
  simp only
  split
  · simp [State.engine]
  · rw [discardIfNoSegment_engines]; rfl

/-! ### Freeing an entry -/

@[simp] theorem forgetHandle_deliveries (s : State) (i h) :
    (s.forgetHandle i h).deliveries = s.deliveries := by
  unfold State.forgetHandle
  exact dropMessages_deliveries s i _

/-- What freeing makes of the table: that entry free, and no other changed. -/
theorem freeEntry_entry (s : State) (i j : Fin 4096) :
    (s.freeEntry i).entry j = if i = j then none else s.entry j := by
  unfold State.freeEntry
  cases h : s.entry i with
  | none =>
    simp only
    split
    · next h1 => subst h1; exact h
    · rfl
  | some d =>
    simp only
    rw [entry_of_deliveries (forgetHandle_deliveries _ _ _)]
    have h1 : ∀ t : State, ∀ p q, ((t.setPlanner p q).hand (.mirror (.delivery i))).entry j = t.entry j :=
      fun _ _ _ => rfl
    rw [h1, setSlot_entry]

@[simp] theorem dropMessages_order (s : State) (i g k) :
    ((s.dropMessages i g).planner k).order = (s.planner k).order := by
  unfold State.dropMessages State.discardIfNoSegment State.discardMeasurement
  simp only
  repeat' split
  all_goals first
    | rfl
    | (simp only [setPlanner_planner]; split
       · next h => subst h; rfl
       · rfl)

/-- Freeing an entry takes it out of its site's order and leaves every other order. -/
theorem freeEntry_order (s : State) (i : Fin 4096) (k : Fin 16) :
    ((s.freeEntry i).planner k).order =
      if (s.entry i).any (fun d => decide (d.site = k)) then (s.planner k).order.erase i
      else (s.planner k).order := by
  unfold State.freeEntry
  cases h : s.entry i with
  | none => rfl
  | some d =>
    simp only [State.forgetHandle, setEngine_planner, dropMessages_order, hand_planner,
      setPlanner_planner, Option.any_some, decide_eq_true_eq]
    split
    · next h1 => subst h1; rfl
    · rfl

/-! ### The replan -/

@[simp] theorem storeEntry_engines (s : State) (p) : (s.storeEntry p).engines = s.engines := rfl
@[simp] theorem storeEntry_targets (s : State) (p) : (s.storeEntry p).targets = s.targets := rfl
@[simp] theorem storeEntry_lanes (s : State) (p) : (s.storeEntry p).lanes = s.lanes := rfl
@[simp] theorem storeEntry_planners (s : State) (p) : (s.storeEntry p).planners = s.planners := rfl

/-- A fold of steps that leave a part leaves it. -/
theorem foldl_leaves {α β : Type} (g : State → β) (f : State → α → State)
    (h : ∀ s a, g (f s a) = g s) (l : List α) (s : State) : g (l.foldl f s) = g s := by
  induction l generalizing s with
  | nil => rfl
  | cons a l ih => simp [ih, h]

/-- What a replan does to a part that neither a store, a planner nor a hand-over touches. -/
theorem replanNow_leaves {β : Type} (g : State → β) (h1 : ∀ s p, g (State.storeEntry s p) = g s)
    (h2 : ∀ s i p, g (State.setPlanner s i p) = g s) (h3 : ∀ s l, g (State.handAll s l) = g s)
    (s : State) (i : Fin 16) : g (s.replanNow i) = g s := by
  unfold State.replanNow
  simp only [h3, h2, foldl_leaves g State.storeEntry h1]

theorem replan_leaves {β : Type} (g : State → β) (h1 : ∀ s p, g (State.storeEntry s p) = g s)
    (h2 : ∀ s i p, g (State.setPlanner s i p) = g s) (h3 : ∀ s l, g (State.handAll s l) = g s)
    (s : State) (i : Fin 16) : g (s.replan i) = g s := by
  unfold State.replan
  split
  · exact replanNow_leaves g h1 h2 h3 s i
  · rfl

@[simp] theorem replan_engines (s : State) (i) : (s.replan i).engines = s.engines :=
  replan_leaves State.engines storeEntry_engines (fun _ _ _ => rfl) (fun _ _ => rfl) s i
@[simp] theorem replan_targets (s : State) (i) : (s.replan i).targets = s.targets :=
  replan_leaves State.targets storeEntry_targets (fun _ _ _ => rfl) (fun _ _ => rfl) s i
@[simp] theorem replan_lanes (s : State) (i) : (s.replan i).lanes = s.lanes :=
  replan_leaves State.lanes storeEntry_lanes (fun _ _ _ => rfl) (fun _ _ => rfl) s i
@[simp] theorem replanAll_engines (s : State) (l) : (s.replanAll l).engines = s.engines :=
  foldl_leaves State.engines State.replan replan_engines l s
@[simp] theorem replanAll_targets (s : State) (l) : (s.replanAll l).targets = s.targets :=
  foldl_leaves State.targets State.replan replan_targets l s
@[simp] theorem replanAll_lanes (s : State) (l) : (s.replanAll l).lanes = s.lanes :=
  foldl_leaves State.lanes State.replan replan_lanes l s

/-- A prediction along an order judges entries of the table, and nothing else of them. -/
theorem predictAlong_mem {look : Fin 4096 → Option Delivery} {e m : Nat} {l : List (Fin 4096)} {last : Nat}
    {k : Fin 4096} {y : Delivery} (h : (k, y) ∈ predictAlong look e m last l) :
    k ∈ l ∧ ∃ d, look k = some d ∧ d.replannedAs y ∧ y.late = d.late := by
  induction l generalizing last with
  | nil => simp [predictAlong] at h
  | cons i rest ih =>
    simp only [predictAlong] at h
    cases hi : look i with
    | none =>
      rw [hi] at h
      have h1 := ih h
      exact ⟨List.mem_cons_of_mem _ h1.1, h1.2⟩
    | some d =>
      rw [hi] at h
      simp only at h
      split at h
      · have h1 := ih h
        exact ⟨List.mem_cons_of_mem _ h1.1, h1.2⟩
      · rcases List.mem_cons.mp h with h1 | h1
        · rw [Prod.mk.injEq] at h1
          obtain ⟨rfl, rfl⟩ := h1
          exact ⟨List.mem_cons_self, d, hi, predictEntry_replannedAs _ _ _, predictEntry_late _ _ _⟩
        · have h2 := ih h1
          exact ⟨List.mem_cons_of_mem _ h2.1, h2.2⟩

/-- Storing entries judged again, alike in LATE where they are the same entry, leaves every entry the same but
for what is judged. -/
theorem storeEntries_slotBecomes (ps : List (Fin 4096 × Delivery)) (s : State)
    (h : ∀ p ∈ ps, ∃ d, s.entry p.1 = some d ∧ d.replannedAs p.2)
    (hl : ∀ p ∈ ps, ∀ q ∈ ps, p.1 = q.1 → p.2.late = q.2.late) (j : Fin 4096) :
    s.slotBecomes (ps.foldl State.storeEntry s) j (s.entry j) := by
  induction ps generalizing s with
  | nil => exact slotBecomes_of_slot rfl
  | cons p ps ih =>
    have hp := h p List.mem_cons_self
    have h1 : ∀ k, (s.storeEntry p).entry k = if p.1 = k then some p.2 else s.entry k := fun k => by
      unfold State.storeEntry; rw [setSlot_entry]
    have h2 : ∀ k, s.slotBecomes (s.storeEntry p) k (s.entry k) := by
      intro k
      refine ⟨?_, ?_⟩
      · unfold State.storeEntry; rw [setSlot_slot]
        split
        · next h3 => subst h3; rfl
        · rfl
      · by_cases h3 : p.1 = k
        · subst h3
          obtain ⟨d, a, b⟩ := hp
          rw [a]
          exact ⟨p.2, by rw [h1, if_pos rfl], b⟩
        · have h4 := (slotBecomes_of_slot (s := s) (x := s) (j := k) rfl).2
          rw [h1 k, if_neg h3]
          exact h4
    refine slotBecomes_trans (h2 j) (ih (s.storeEntry p) ?_ fun a ha b hb =>
      hl a (List.mem_cons_of_mem _ ha) b (List.mem_cons_of_mem _ hb))
    intro q hq
    obtain ⟨d, a, b⟩ := h q (List.mem_cons_of_mem _ hq)
    rw [h1 q.1]
    split
    · next h3 =>
      obtain ⟨d1, a1, b1⟩ := hp
      rw [h3, a] at a1
      cases a1
      have h4 := hl p List.mem_cons_self q (List.mem_cons_of_mem _ hq) h3
      refine ⟨p.2, rfl, ?_, fun h5 => h4 ▸ h5⟩
      rw [b.1, b1.1]
    · exact ⟨d, a, b⟩

/-- A replan leaves every entry the same but for prediction, AT_RISK and LATE, and frees or takes none. -/
theorem replanNow_slotBecomes (s : State) (i : Fin 16) (j : Fin 4096) :
    s.slotBecomes (s.replanNow i) j (s.entry j) := by
  have h1 : ∀ (t : State) (l : List (Fin 4096)),
      ∀ p ∈ t.newlyLate l, p.2.late = true ∧ ∃ d, t.entry p.1 = some d ∧ d.replannedAs p.2 := by
    intro t l p hp
    simp only [State.newlyLate, List.mem_filterMap] at hp
    obtain ⟨k, -, hk⟩ := hp
    split at hk
    · next d hd =>
      split at hk
      · cases hk; exact ⟨rfl, d, hd, rfl, fun _ => rfl⟩
      · cases hk
    · cases hk
  have h2 : ∀ (t : State) (p : Planner) (hs : List Handing),
      t.slotBecomes ((t.setPlanner i p).handAll hs) j (t.entry j) :=
    fun t p hs => slotBecomes_of_slot rfl
  unfold State.replanNow
  exact slotBecomes_trans
    (slotBecomes_trans
      (storeEntries_slotBecomes _ s
        (fun p hp => by
          obtain ⟨d, a, b, -⟩ := (predictAlong_mem hp).2
          exact ⟨d, a, b⟩)
        (fun p hp q hq h3 => by
          obtain ⟨d, a, -, b⟩ := (predictAlong_mem hp).2
          obtain ⟨d1, a1, -, b1⟩ := (predictAlong_mem hq).2
          rw [h3, a1] at a
          cases a
          rw [b, b1]) j)
      (storeEntries_slotBecomes _ _ (fun p hp => (h1 _ _ p hp).2)
        (fun p hp q hq _ => by rw [(h1 _ _ p hp).1, (h1 _ _ q hq).1]) j)) (h2 _ _ _)

theorem replan_slotBecomes (s : State) (i : Fin 16) (j : Fin 4096) :
    s.slotBecomes (s.replan i) j (s.entry j) := by
  unfold State.replan
  split
  · exact replanNow_slotBecomes s i j
  · exact slotBecomes_of_slot rfl

theorem replanAll_slotBecomes (l : List (Fin 16)) (s : State) (j : Fin 4096) :
    s.slotBecomes (s.replanAll l) j (s.entry j) := by
  induction l generalizing s with
  | nil => exact slotBecomes_of_slot rfl
  | cons i l ih => exact slotBecomes_trans (replan_slotBecomes s i j) (ih _)

end Sys2Proof.Machine
end

