-- ==== Sys2Proof/Laws/Event.lean ====
section
/-! SUPPORT. How an event is taken and ended: a ready block takes a command at once, and the end of an event
changes nothing when nothing was handed and no lane can grant. -/

namespace Sys2Proof.Machine

@[simp] theorem wait_outline (s : State) (w) : (s.wait w).outline = s.outline := rfl
@[simp] theorem wait_queue (s : State) (w) : (s.wait w).queue = s.queue := rfl
@[simp] theorem wait_waiting (s : State) (w) : (s.wait w).waiting = s.waiting ++ [w] := rfl

/-- With no event waiting no block waits. -/
theorem blockWaits_of_nil {s : State} (h : s.waiting = []) (b : Block) : s.blockWaits b = false := by
  simp [State.blockWaits, h]

/-- With no event waiting and room in the queue an event is taken at once (R4). -/
theorem takeOrWait_of_room {s : State} (h : s.waiting = []) (h1 : s.queue.length < Config.queueLimit)
    (w : Waiter) (e : State → State) : s.takeOrWait w e = e s := by
  have h2 : ¬ Config.queueLimit ≤ s.queue.length := Nat.not_le.mpr h1
  simp [State.takeOrWait, State.mustWait, blockWaits_of_nil h, State.refusedByQueue, State.queueFull, h2]

/-- An event that would place writes waits while the queue is full, with no effect (R4). -/
theorem takeOrWait_of_full {s : State} (h : Config.queueLimit ≤ s.queue.length) (w : Waiter)
    {e : State → State} (h1 : s.queue.length < (e s).queue.length) : s.takeOrWait w e = s.wait w := by
  simp [State.takeOrWait, State.refusedByQueue, State.queueFull, h, h1]

/-- A ready block takes a command at once with its effect (R4). -/
theorem takeEvent_of_ready {s : State} (h : s.ready) (c : Instr) (e : State → State) :
    s.takeEvent c e = e s := by
  exact takeOrWait_of_room h.1 h.2.1 _ _

/-- What taking an event can do: the effect, or the event begins to wait. -/
theorem takeOrWait_cases (s : State) (w : Waiter) (e : State → State) :
    s.takeOrWait w e = e s ∨ s.takeOrWait w e = s.wait w := by
  unfold State.takeOrWait; repeat' split
  · exact .inr rfl
  · exact .inr rfl
  · exact .inl rfl

/-- With nothing handed the flush changes nothing. -/
theorem flush_of_nil {s : State} (h : s.handed = []) : s.flush = s := by
  cases s; simp only at h; subst h; rfl

/-- A lane that cannot grant leaves the state alone. -/
theorem arbitrate_of_cannot {s : State} {l : Fin 4} (h : s.canGrant l = false) (n w) :
    arbitrate n l w s = s := by
  cases n with
  | zero => rfl
  | succ n => unfold arbitrate; simp [h]

/-- When no lane can grant, none does. -/
theorem arbitrateAll_of_noGrant {s : State} (h : s.noGrant) : s.arbitrateAll = s := by
  have h0 : ∀ l, s.arbitrateLane l = s := fun l => by
    unfold State.arbitrateLane; rw [arbitrate_of_cannot (h l), ite_self]
  have h1 : ∀ ls : List (Fin 4), ls.foldl State.arbitrateLane s = s := by
    intro ls
    induction ls with
    | nil => rfl
    | cons l ls ih => simp only [List.foldl_cons, h0, ih]
  exact h1 _

/-- Outside HALTED nothing is cleaned up. -/
theorem haltCleanup_of_not {s : State} (h : s.part ≠ .halted) : s.haltCleanup = s := by
  simp [State.haltCleanup, h]

/-- States of equal outline are in the same part state. -/
theorem part_of_outline {s t : State} (h : t.outline = s.outline) : t.part = s.part := by
  have h1 : t.outline.part = s.outline.part := by rw [h]
  exact h1

/-- An event that ends in a state in which no lane can grant ends there. -/
theorem finish_of_still {s : State} (h : s.flush.noGrant) (hp : s.part ≠ .halted) :
    s.finish = s.flush := by
  have h1 : s.flush.part ≠ .halted := by rw [part_of_outline (flush_outline s)]; exact hp
  unfold State.finish
  rw [arbitrateAll_of_noGrant h, haltCleanup_of_not h1]

/-- A ready block takes every command but the link's own three at once, with its effect (R4). -/
theorem exec_of_ready {s : State} (h : s.ready) (c : Instr) (h1 : drains c = false)
    (h2 : ∀ n, c ≠ .postedWriteFailed n) : exec c s = .next (effectOf c s) := by
  cases c
  case fenceDrained => cases h1
  case postedWriteQueueRoom => cases h1
  case postedWriteFailed n => exact absurd rfl (h2 n)
  case powerOnReset => rfl
  case softReset => rfl
  case productionClockTick => rfl
  all_goals exact congrArg Host.Outcome.next (takeEvent_of_ready h _ _)

/-- A record asks for nothing against itself, as after a SITE ticket that is refused. -/
@[simp] theorem asksRequest_self (r : SiteRecord) : r.asksRequest r = false := by
  simp [SiteRecord.asksRequest, SiteRecord.placedElsewhere]
@[simp] theorem asksReplan_self (r : SiteRecord) : r.asksReplan r = false := by
  simp [SiteRecord.asksReplan]

/-- A record that asks for nothing brings no request (R37). -/
theorem siteRequests_of_none {before s : State} {i : Fin 16}
    (h : (before.site i).asksRequest (s.site i) = false)
    (h1 : (before.site i).asksReplan (s.site i) = false) : State.siteRequests before i s = s := by
  simp [State.siteRequests, h, h1]

/-- A ready block whose command ends an event answers what the grants leave of that event's writes. -/
theorem thenGrants_of_finish {c : Instr} {s y : State} (h : exec c s = .next y.finish)
    (hp : y.part ≠ .halted) : thenGrants c s y.flush := by
  have h1 : y.flush.arbitrateAll.part ≠ .halted := by
    rw [part_of_outline (show y.flush.arbitrateAll.outline = y.outline by simp)]; exact hp
  unfold thenGrants
  rw [h]
  unfold State.finish
  rw [haltCleanup_of_not h1]

end Sys2Proof.Machine
end

