-- ==== Sys2Proof/WellFormed.lean ====
section
/-! DEFINITION. Which commands the outside can send: the sizes of what a read returns and of a good
frame. The machine is total and does not rest on these checks. -/

namespace Sys2Proof

/-- A good frame's length field is at most 32,768 (R130 step 2, R160). -/
def InFrame.wellFormed (f : InFrame) : Bool := decide (f.length.toNat ≤ Config.segmentMax)

/-- A ticket read returns 128 bytes (section 1.4), the freeze read 16 (R184), a segment read 1 to
32,768 (R150), and a site message is a good frame. -/
def Instr.wellFormed : Instr → Bool
  | .ticketReadDone _ (some bytes) => bytes.length == Config.ticketSize
  | .freezeReadDone _ bytes => bytes.length == 16
  | .segmentReadDone _ data => decide (1 ≤ data.length ∧ data.length ≤ Config.segmentMax)
  | .welcome _ f => f.wellFormed
  | .receipt _ f => f.wellFormed
  | .refuse _ f => f.wellFormed
  | .plated _ f => f.wellFormed
  | .withdrawn _ f => f.wellFormed
  | .tooLate _ f => f.wellFormed
  | .targetOk _ f => f.wellFormed
  | .echo _ f => f.wellFormed
  | _ => true

end Sys2Proof
end

