-- ==== Sys2Proof/Tests/Slice0.lean ====
section
/-! SUPPORT. Tests on small states, with values the manual states, and for every statement with hypotheses a
state and operands that meet them, clause by clause. -/

namespace Sys2Proof.Tests

open Sys2Proof Sys2Proof.Machine

set_option Elab.async false

/-! ### Well-formedness: an ill-formed command for each check -/

theorem test_wellformed_ticket_read :
    (Instr.ticketReadDone 0 (some (zeros 127))).wellFormed = false ∧
      (Instr.ticketReadDone 0 (some (zeros 128))).wellFormed = true ∧
      (Instr.ticketReadDone 0 none).wellFormed = true := by decide +kernel

theorem test_wellformed_freeze_read :
    (Instr.freezeReadDone 0 (zeros 15)).wellFormed = false ∧
      (Instr.freezeReadDone 0 (zeros 16)).wellFormed = true := by decide +kernel

theorem test_wellformed_segment_read :
    (Instr.segmentReadDone 0 []).wellFormed = false ∧
      (Instr.segmentReadDone 0 (zeros 32768)).wellFormed = true ∧
      (Instr.segmentReadDone 0 (zeros 32769)).wellFormed = false := by
  simp only [Instr.wellFormed, zeros, List.length_replicate, List.length_nil, Config.segmentMax]
  decide

/-- A frame header with this length. -/
def longFrame (n : Nat) : InFrame :=
  { runTag := 0, sender := 0, addressee := 0, reason := 0, generation := 0, index := 0, offset := 0,
    length := BitVec.ofNat 32 n, count := 0 }

theorem test_wellformed_frames :
    (siteMessages 0 (longFrame 32769)).all (fun c => !c.wellFormed) = true ∧
      (siteMessages 0 (longFrame 32768)).all Instr.wellFormed = true := by decide +kernel

/-! ### Arithmetic, with the manual's worked values -/

/-- The check value of the CRC-32 of this generator, over the nine digits (log 10). -/
theorem test_crc_of_nine_digits :
    crc32 [0x31, 0x32, 0x33, 0x34, 0x35, 0x36, 0x37, 0x38, 0x39] = 0xCBF43926#32 := by decide +kernel

/-- Table 5-1 and Table 7-5. -/
theorem test_factor_of_worked_closings :
    factorAfter 2000 4096 325 131072 = 4249 ∧ factorAfter 20000 4096 3100 65536 = 4853 := by
  decide +kernel

/-- Section 5.10: E and the durations of Table 5-2. -/
theorem test_effective_pace_and_durations :
    effectivePace 2000 4249 = 2075 ∧ ceilDiv (3145728 * 2075) 1048576 = 6225 ∧
      ceilDiv (5000000 * 2075) 1048576 = 9895 := by decide +kernel

/-- R118: 65,535 is followed by 1. -/
theorem test_target_number_wraps : nextTargetNumber 65535 = 1 ∧ nextTargetNumber 0 = 1 := by
  decide +kernel

/-! ### Small states -/

/-- RUNNING at a board base of 1 MiB, the reader waiting, nothing configured. -/
def calm : State :=
  { State.reset with part := .running, run := true, boardLo := 0x100000, reader := .waiting, runTag := 77 }

/-- A ticket of the board ticket area, with sequence number 7. -/
def ticketOf (kind : Nat) (body : List Byte) : Ticket :=
  { address := 0x101000, link := 0, sequence := 7, kind := kind, posting := 0x5A, body := body }

/-- That ticket alone in the buffer and in execution. -/
def holding (tk : Ticket) (s : State) : State :=
  { s with buffer := [.ticket tk], execution := some .handed }

/-- One read of this kind in flight, under tag 0. -/
def reading (k : ReadKind) (s : State) : State :=
  { s with reads := [{ tag := 0, kind := k, address := 0x101000, live := true }], nextTag := 1 }

/-- A CURRENT delivery of 65,536 bytes to site 3 in a state. -/
def page (st : DeliveryState) : Delivery :=
  { edition := 5, sect := 0, page := 1, version := 1, site := 3, state := st, current := true,
    held := false, atRisk := false, late := false, replate := false, dataAddress := 0x40000000,
    size := 65536, pageOffset := 0, deadline := 100000, releaseNumber := 1, sent := 0, acked := 0,
    prediction := none, reason := none, platedTime := none }

/-- Site 3 enabled on lane 2 with station 55, and edition 5 defined for it with plate time 100,000. -/
def configured (s : State) : State :=
  (s.setSite 3 { SiteRecord.reset with enabled := true, lane := 2, station := 55 }).setEdition 5
    { Edition.reset with
      defined := true, code := 900, subscribed := putAt (Vector.replicate 16 false) 3 true,
      plates := putAt (Vector.replicate 16 none) 3 (some 100000) }

/-- That site with the last entry holding a delivery, its engine in a state, and lane 2 in a state. -/
def night (site : SiteState) (lane : LaneState) (d : Delivery) : State :=
  ((((configured calm).setSlot 4095 { generation := 1, use := some d }).setPlanner 3
      { Planner.reset with order := if d.state.inOrder then [4095] else [], timer := some 250 }).setEngine 3
    { Engine.reset with state := site }).setLane 2
      { Lane.reset true with enable := true, state := lane }

/-- A frame of site 3 that names the last entry. -/
def frame (count : Nat) : InFrame :=
  { runTag := 77, sender := 55, addressee := 0, reason := 0, generation := 1, index := 4095,
    offset := 0, length := 0, count := BitVec.ofNat 32 count }

/-- The state a command answers. -/
def after (c : Instr) (s : State) : State :=
  match exec c s with
  | .next t => t
  | _ => s

/-! ### Commands -/

/-- R5: with no base the start is refused, and STATUS shows NO_BOARD. -/
theorem test_start_without_base :
    (after (.runStart false) State.reset).readStatus = 16 ∧
      (after (.runStart false) State.reset).readControl = 0 := by decide +kernel

/-- R1: the low 19 bits are ignored. -/
theorem test_board_lo_low_bits :
    (after (.boardLoWrite 0xFFFFFFFF) State.reset).readBoardLo = 0xFFF80000 := by decide +kernel

/-- R11: the poll interval is clamped to 1,000 ms. -/
theorem test_poll_interval_clamped :
    (after (.pollIntervalReadDone 0 0xFFFFFFFF) (reading .pollInterval calm)).pollInterval = 1000 := by
  decide +kernel

/-- R19: SET with the greatest base and length that fit below 2^64. -/
theorem test_window_at_the_top :
    (after .window (holding (ticketOf 1 ([15, 1, 2] ++ zeros 5 ++ le 8 0xFFFFFFFFF0000000 ++ le 4 65536))
      calm)).windows.toList.map (fun w => (w.valid, w.base, w.granules)) =
      List.replicate 15 (false, 0, 0) ++ [(true, 0xFFFFFFFFF0000000, 65536)] := by decide +kernel

/-- R14: the log record of a retirement: sequence, kind, code, and the result words. -/
theorem test_retirement_log :
    (after .badKind (holding (ticketOf 0x7F []) calm)).queue.getLast? =
      some (.board 0x100010 0x010 [7, 0, 0, 0]) := by decide +kernel

/-- R35: a pace of 0 is clamped to 1, and the mask names it (bit 0). -/
theorem test_site_pace_clamped :
    ((after .site (holding (ticketOf 3 ([3, 1, 2, 0, 55, 0, 0, 0, 4, 14, 3, 8] ++ le 2 2000 ++
      le 2 10000 ++ zeros 48)) calm)).site 3).pace = 1 := by decide +kernel

/-- R49: a plate time below the page offset gives deadline 0. -/
theorem test_deadline_clamped : deadlineOf 1000 (-3600000) = 0 ∧ deadlineOf 4294967295 1 = 4294967295 := by
  decide +kernel

/-- R158: a lane enabled becomes DOWN. -/
theorem test_lane_enabled :
    ((after .lane (holding (ticketOf 5 [1, 1, 255, 200]) calm)).lane 1).state = .down ∧
      ((after .lane (holding (ticketOf 5 [1, 1, 255, 200]) calm)).lane 1).quietTime = 60 := by
  decide +kernel

/-- R84: the clock takes the ticket's value. -/
theorem test_clock_ticket :
    (after .clock (holding (ticketOf 6 [0xFF, 0xFF, 0xFF, 0xFF]) calm)).readClock = 0xFFFFFFFF := by
  decide +kernel

/-- R69: a RELEASE takes the lowest free entry and steps its generation. -/
theorem test_release_takes_lowest_entry :
    ((after .release (holding (ticketOf 0x10 ([5, 0, 2, 0, 1, 0, 0, 0] ++ le 4 100 ++ le 4 0 ++
        le 8 0x40000000))
      { configured calm with
        windows := putAt calm.windows 0
          { valid := true, kind := .data, base := 0x40000000, granules := 1 } })).slot 0).generation = 1 := by
  decide +kernel

/-- R78: HOLD takes the entry out of the prediction set. -/
theorem test_hold_sets_held :
    (((after .hold (holding (ticketOf 0x11 [0xFF, 7]) (night .lost .up (page .waiting)))).entry 4095).map
      fun d => (d.held, d.prediction)) = some (true, none) := by decide +kernel

/-- R79. -/
theorem test_resume_clears_held :
    (((after .resume (holding (ticketOf 0x12 [3, 7])
      (night .lost .up { page .waiting with held := true }))).entry 4095).map Delivery.held) =
      some false := by decide +kernel

/-- R80: a DELIVERED entry is withdrawn, its WITHDRAW queued. -/
theorem test_recall_withdraws :
    ((after .recall (holding (ticketOf 0x13 [3, 7]) (night .lost .up (page .delivered)))).engine
      3).withdrawQueue = [⟨4095, 1⟩] := by decide +kernel

/-- R81: sent returns to acked. -/
theorem test_retry_keeps_acked :
    (((after .retry (holding (ticketOf 0x14 [3, 7]) (night .lost .up
      { page .failed with sent := 40000, acked := 30000, reason := some .dataRead }))).entry 4095).map
      fun d => (d.state, d.sent, d.reason)) = some (.waiting, 30000, none) := by decide +kernel

/-- R82: PLATED is freed and WITHDRAWING stays. -/
theorem test_purge_frees_plated :
    (after .purge (holding (ticketOf 0x15 [5]) (night .lost .up (page .plated)))).entry 4095 = none ∧
      (after .purge (holding (ticketOf 0x15 [5]) (night .lost .up (page .withdrawing)))).entry 4095 ≠
        none := by decide +kernel

/-- Table 6-4, site 2: the black density and the yellow tone are clamped. -/
theorem test_target_values_of_site_two :
    siteValues
      { SiteRecord.reset with
        offsets := #v[40, -30, 0, 120, -15, 0, 10, 5],
        limits := #v[(0, 3000), (0, 3000), (0, 3000), (0, 1780), (0, 400), (0, 400), (0, 205), (0, 400)] }
      #v[1450, 1400, 1000, 1700, 220, 230, 200, 250] =
      #v[1490, 1370, 1000, 1780, 205, 230, 205, 255] := by decide +kernel

/-- Section 6.7: a move of 8 is significant with hold exponent 3, one of 7 is not. -/
theorem test_hold_test_threshold :
    significant { TargetRecord.reset with lastSent := some #v[100, 0, 0, 0, 0, 0, 0, 0] } 3
      #v[108, 0, 0, 0, 0, 0, 0, 0] = true ∧
    significant { TargetRecord.reset with lastSent := some #v[100, 0, 0, 0, 0, 0, 0, 0] } 3
      #v[93, 0, 0, 0, 0, 0, 0, 0] = false := by decide +kernel

/-- R136. -/
theorem test_welcome_brings_online :
    ((after (.welcome 2 (frame 0)) (night .joining .up (page .delivered))).engine 3).state = .online := by
  decide +kernel

/-- R60: a RECEIPT of the whole size delivers a SENDING entry. -/
theorem test_receipt_delivers :
    (((after (.receipt 2 (frame 65536)) (night .online .up
      { page .sending with sent := 65536 })).entry 4095).map fun d => (d.state, d.acked)) =
      some (.delivered, 65536) := by decide +kernel

/-- R61: reason code 1 is NO_SPACE. -/
theorem test_refuse_reason :
    (((after (.refuse 2 { frame 0 with reason := 1 }) (night .online .up (page .offered))).entry
      4095).map fun d => (d.state, d.reason)) = some (.refused, some .noSpace) := by decide +kernel

/-- R74: WITHDRAWN frees, and the generation is kept. -/
theorem test_withdrawn_frees :
    (after (.withdrawn 2 (frame 0)) (night .online .up (page .withdrawing))).slot 4095 =
      { generation := 1, use := none } := by decide +kernel

/-- R163: carrier lost takes an UP lane DOWN, and its ONLINE site is LOST. -/
theorem test_carrier_lost :
    ((after (.carrierLost 2) (night .online .up (page .sending))).lane 2).cause = some .carrier ∧
      ((after (.carrierLost 2) (night .online .up (page .sending))).engine 3).state = .lost := by
  decide +kernel

/-- R83: the clock holds at its greatest value. -/
theorem test_clock_holds :
    (after .productionClockTick { calm with clock := 4294967295 }).clock = 4294967295 ∧
      (after .productionClockTick { calm with clock := 4294967294 }).clock = 4294967295 := by
  decide +kernel

/-- Table 8-2 at 7,300,000 and 7,300,120: class 2 before class 3, and the least measure of class 3. -/
theorem test_worked_grants :
    (bestBid [{ site := 1, supply := .segment 310, measure := some 12400 },
        { site := 4, supply := .withdraw ⟨0, 0⟩, measure := none },
        { site := 6, supply := .target 5, measure := some 5000 },
        { site := 9, supply := .hello, measure := none }]).map Bid.site = some 4 ∧
    (bestBid [{ site := 1, supply := .segment 310, measure := some 12400 },
        { site := 6, supply := .target 5, measure := some 4880 },
        { site := 9, supply := .hello, measure := none }]).map Bid.site = some 6 := by decide +kernel

/-! ### Witnesses: the hypotheses of each statement are met, clause by clause -/

/-- The part IDLE with a base at the first multiple of 524,288. -/
def declared : State := { State.reset with boardLo := 0x80000 }

theorem ready_of {s : State}
    (h : (s.waiting.isEmpty && decide (s.queue.length < 256) && s.handed.isEmpty) = true) : s.ready := by
  simp only [Bool.and_eq_true, List.isEmpty_iff, decide_eq_true_eq] at h
  exact ⟨h.1.1, h.1.2, h.2⟩

theorem alone_of {s : State} {tk : Ticket}
    (h : decide (s.part = .running ∧ s.stopping = false ∧ s.execution = some .handed ∧
      s.buffer = [.ticket tk] ∧ s.reader = .waiting) = true) : s.alone tk := by
  have h1 := of_decide_eq_true h; exact h1

theorem reaches_of {s : State} {l : Fin 4} {f : InFrame} {i : Fin 16}
    (h : decide (s.part ≠ .halted ∧ (s.lane l).state = .up ∧ (s.lane l).carrier = true ∧ f.length = 0 ∧
      s.routeFrame l f = some i ∧ (s.engine i).state ≠ .unset) = true) : s.reaches l f i := by
  have h1 := of_decide_eq_true h; exact h1

theorem reports_of {s : State} {f : InFrame} {i : Fin 16} {h : Handle} {d : Delivery}
    (h1 : decide (inHandle f = some h ∧ s.named h = some d ∧ d.site = i) = true) :
    s.reports f i h d := by
  have h2 := of_decide_eq_true h1; exact h2

theorem begins_of {s : State} (h : s.lastRetired.all (fun p => s.ticketAdmitted p.address) = true) :
    s.beginsAdmitted := by
  intro p hp; rw [hp, Option.all_some] at h; exact h

theorem grantsTo_of {s : State} {l : Fin 4} {i : Fin 16} {f : Frame}
    (h : decide ((s.lane l).transmitter = .sending f ∧ s.part ≠ .halted ∧ (s.lane l).state = .up ∧
      s.carried l = [i] ∧ ∀ m, m ≠ l → s.canGrant m = false) = true) : s.grantsTo l i := by
  have h1 := of_decide_eq_true h; exact ⟨⟨f, h1.1⟩, h1.2⟩

theorem calm_ready : calm.ready := ready_of (by decide +kernel)
theorem holding_ready (tk : Ticket) : (holding tk calm).ready := calm_ready
theorem holding_alone (tk : Ticket) : (holding tk calm).alone tk := ⟨rfl, rfl, rfl, rfl, rfl⟩

theorem reset_slot (j : Fin 4096) : State.reset.slot j = { generation := 0, use := none } := by
  show getAt (Vector.replicate 4096 Slot.reset) j = _
  simp [getAt_eq, Slot.reset]

theorem calm_entry (j : Fin 4096) : calm.entry j = none :=
  congrArg Slot.use (reset_slot j)

theorem calm_target (e : Fin 32) (i : Fin 16) : calm.target e i = TargetRecord.reset := by
  show getAt (Vector.replicate 512 TargetRecord.reset) _ = _
  simp [getAt_eq]

theorem test_witness_StartWithoutBoardIsRefused :
    State.reset.ready ∧ State.reset.part = .idle ∧ State.reset.run = false ∧ State.reset.base = 0 :=
  ⟨ready_of (by decide +kernel), by decide +kernel⟩

theorem test_witness_StartEntersRunning :
    let again : State :=
      { declared with lastRetired := some { address := 0x82F80, sequence := 9, link := 0 } }
    (declared.ready ∧ declared.part = .idle ∧ declared.run = false ∧ declared.base ≠ 0 ∧
      declared.beginsAdmitted) ∧ again.ready ∧ again.beginsAdmitted ∧ calm.ready ∧ calm.part ≠ .idle ∧
      calm.run = true :=
  ⟨⟨ready_of (by decide +kernel), rfl, rfl, by decide +kernel, begins_of rfl⟩,
    ready_of (by decide +kernel), begins_of (by decide +kernel), calm_ready, by decide +kernel⟩

theorem test_witness_RunStopStopsTheReader :
    (calm.ready ∧ calm.run = true ∧ calm.part = .running ∧ calm.execution = none) ∧
      ((holding (ticketOf 2 []) calm).ready ∧ (holding (ticketOf 2 []) calm).execution ≠ none) ∧
      { calm with part := .stalled }.part ≠ .running ∧ State.reset.run = false :=
  ⟨⟨ready_of (by decide +kernel), by decide +kernel⟩, ⟨ready_of (by decide +kernel), by decide +kernel⟩, by decide +kernel⟩

theorem test_witness_RegisterWrites :
    (State.reset.ready ∧ State.reset.part = .idle) ∧ calm.ready ∧ calm.part ≠ .idle :=
  ⟨⟨ready_of (by decide +kernel), by decide +kernel⟩, ready_of (by decide +kernel), by decide +kernel⟩

/-- A ticket retired at the last place of the board ticket area. -/
def retiredOne : State :=
  { calm with lastRetired := some { address := 0x102F80, sequence := 4294967295, link := 0 } }

/-- A FENCE in execution that waits, the reader waiting behind it. -/
def behind : State := { calm with buffer := [.ticket (ticketOf 2 [])], execution := some (.fence 1) }

theorem test_witness_NudgeReadsTheHeader :
    { calm with part := .halted }.ready ∧ State.reset.base = 0 ∧
      (declared.ready ∧ declared.part = .idle ∧ declared.base ≠ 0) ∧
      ({ calm with part := .stalled }.ready ∧ { calm with stopping := true }.ready ∧ calm.base ≠ 0) ∧
      (retiredOne.ready ∧ retiredOne.part = .running ∧ retiredOne.stopping = false ∧
        retiredOne.base ≠ 0 ∧ retiredOne.reader = .waiting ∧ retiredOne.buffer = [] ∧
        retiredOne.ticketAdmitted 0x102F80 = true ∧ calm.lastRetired = none) ∧
      (behind.ready ∧ behind.reader = .waiting ∧ behind.buffer = [] ++ [.ticket (ticketOf 2 [])] ∧
        behind.ticketAdmitted 0x101000 = true) ∧
      ({ calm with reader := .rereading }.ready ∧
        (reading .chainEntry { calm with reader := .fetching }).ready) ∧
      (reading .chainEntry calm).reads =
        [{ tag := 0, kind := .chainEntry, address := 0x101000, live := true }] ∧
      { calm with reader := .blocked }.ready ∧ ¬ ∃ r ∈ calm.reads, r.live = true ∧ r.kind = .chainEntry :=
  ⟨ready_of (by decide +kernel), by decide +kernel, ⟨ready_of (by decide +kernel), by decide +kernel⟩,
    ⟨calm_ready, calm_ready, by decide +kernel⟩, ⟨ready_of (by decide +kernel), by decide +kernel⟩,
    ⟨calm_ready, by decide +kernel⟩, ⟨calm_ready, calm_ready⟩, rfl, calm_ready, by decide +kernel⟩

theorem test_witness_RunTagAndPollIntervalArrive :
    ((reading .runTag declared).ready ∧
      (reading .runTag declared).findRead 0 ReadKind.isRunTag =
        some { tag := 0, kind := .runTag, address := 0x101000, live := true } ∧
      (reading .runTag declared).part ≠ .halted) ∧
    (reading .pollInterval calm).findRead 0 ReadKind.isPollInterval =
        some { tag := 0, kind := .pollInterval, address := 0x101000, live := true } ∧
    ((reading .runTag { calm with part := .halted }).part = .halted ∧
      (reading .ticket calm).abandonChainReads.ready ∧
      (reading .ticket calm).abandonChainReads.findRead 0 ReadKind.isTicket =
        some { tag := 0, kind := .ticket, address := 0x101000, live := false }) :=
  ⟨⟨ready_of (by decide +kernel), by decide +kernel⟩, by decide +kernel, rfl,
    ready_of (by decide +kernel), by decide +kernel⟩

theorem test_witness_ChainEntryArrives :
    let s := reading .chainEntry calm
    (s.ready ∧
      s.findRead 0 ReadKind.isChainEntry =
        some { tag := 0, kind := .chainEntry, address := 0x101000, live := true } ∧
      s.part = .running ∧ s.stopping = false ∧ s.buffer = [] ∧ s.execution = none ∧
      s.faultPresent = false ∧ s.rereadRequest = false) ∧
    ({ s with rereadRequest := true }.ready ∧ s.lastRetired = none) ∧
    (0x102F80 % 128 = 0 ∧ s.ticketAdmitted 0x102F80 = true) ∧
    (0x102F81 % 128 ≠ 0 ∧ s.ticketAdmitted 0x103000 = false) :=
  ⟨⟨calm_ready, by decide +kernel⟩, ⟨calm_ready, rfl⟩, by decide +kernel⟩

/-- The 128 bytes of a ticket with this link, sequence number and posting byte. -/
def linkedBytes (link sequence posting : Nat) : List Byte :=
  le 8 link ++ le 4 sequence ++ [2, BitVec.ofNat 8 posting] ++ zeros 114

def ticketBytes (sequence posting : Nat) : List Byte := linkedBytes 0 sequence posting

theorem test_witness_TicketArrives :
    let s := reading .ticket { retiredOne with reader := .fetching }
    let fits (b : List Byte) : Prop :=
      ∀ p, s.lastRetired = some p → (Ticket.ofBytes 0x101000 b).sequence = (p.sequence + 1) % 4294967296
    (s.ready ∧
      s.findRead 0 ReadKind.isTicket =
        some { tag := 0, kind := .ticket, address := 0x101000, live := true } ∧
      s.part = .running ∧ s.stopping = false ∧ s.buffer = [] ∧ s.execution = none ∧
      s.reader = .fetching ∧ s.faultPresent = false) ∧
    ((Ticket.ofBytes 0x101000 (ticketBytes 0 0x5A)).posting = 0x5A ∧ fits (ticketBytes 0 0x5A) ∧
      (Ticket.ofBytes 0x101000 (ticketBytes 0 0x5A)).link = 0) ∧
    ((Ticket.ofBytes 0x101000 (linkedBytes 0x102F80 0 0x5A)).link = 0x102F80 ∧
      fits (linkedBytes 0x102F80 0 0x5A) ∧ s.ticketAdmitted 0x102F80 = true ∧
      s.ticketAdmitted 0x103000 = false) ∧
    (Ticket.ofBytes 0x101000 (ticketBytes 0 0xD0)).posting ≠ 0x5A ∧ ¬ fits (ticketBytes 1 0x5A) := by
  have h : ∀ b, (Ticket.ofBytes 0x101000 b).sequence = 0 → ∀ p : Retired,
      (reading .ticket { retiredOne with reader := .fetching }).lastRetired = some p →
      (Ticket.ofBytes 0x101000 b).sequence = (p.sequence + 1) % 4294967296 := by
    intro b hb p hp; cases hp; exact hb
  refine ⟨⟨ready_of (by decide +kernel), by decide +kernel⟩,
    ⟨by decide +kernel, h _ (by decide +kernel), by decide +kernel⟩,
    ⟨by decide +kernel, h _ (by decide +kernel), by decide +kernel⟩, by decide +kernel, ?_⟩
  intro h; exact absurd (h _ rfl) (by decide +kernel)

/-- Tickets that join a buffer of two, of three, and behind one in execution. -/
theorem test_witness_TicketArrives_prefetching :
    let s (n : Nat) : State :=
      reading .ticket
        { behind with reader := .fetching, buffer := List.replicate n (.ticket (ticketOf 2 [])) }
    ((s 1).ready ∧ (s 2).ready ∧ (s 3).ready) ∧
      ((s 2).buffer ≠ [] ∧ (s 2).execution ≠ none ∧ (s 2).reader = .fetching ∧ (s 2).buffer.length < 3 ∧
        3 ≤ (s 3).buffer.length) ∧
      (s 2).findRead 0 ReadKind.isTicket =
        some { tag := 0, kind := .ticket, address := 0x101000, live := true } ∧
      (s 2).ticketAdmitted 0x101000 = true :=
  ⟨⟨calm_ready, calm_ready, calm_ready⟩, by decide +kernel⟩

theorem test_witness_LinkRereadReturns :
    let s := reading .link retiredOne
    let b (n : Nat) : State :=
      { reading .link behind with
        buffer := List.replicate n (.ticket (ticketOf 2 [])) ++ [.ticket (ticketOf 2 [])] }
    (s.ready ∧
      s.findRead 0 ReadKind.isReread =
        some { tag := 0, kind := .link, address := 0x101000, live := true } ∧
      s.part = .running ∧ s.stopping = false ∧ s.buffer = [] ∧ s.execution = none ∧
      s.faultPresent = false ∧
      s.lastRetired = some { address := 0x102F80, sequence := 4294967295, link := 0 } ∧
      s.rereadRequest = false) ∧
    { s with rereadRequest := true }.ticketAdmitted 0x102F80 = true ∧
    (0x101000 % 128 = 0 ∧ s.ticketAdmitted 0x101000 = true ∧ s.ticketAdmitted 0x103000 = false) ∧
    ((reading .entryReread calm).ready ∧
      (reading .entryReread calm).findRead 0 ReadKind.isReread =
        some { tag := 0, kind := .entryReread, address := 0x101000, live := true } ∧
      calm.lastRetired = none) ∧
    ((b 2).ready ∧ (b 3).ready) ∧
    (b 2).findRead 0 ReadKind.isReread =
      some { tag := 0, kind := .link, address := 0x101000, live := true } :=
  ⟨⟨ready_of (by decide +kernel), by decide +kernel⟩, by decide +kernel, by decide +kernel,
    ⟨calm_ready, by decide +kernel⟩, ⟨calm_ready, calm_ready⟩, by decide +kernel⟩

/-- STALLED after a fault in RUNNING, with the fault-present byte being read. -/
def stalled : State :=
  reading .faultPresent
    { calm with part := .stalled, faultPresent := true, stallOrigin := some .running }

theorem test_witness_FaultPresentReadLeavesStalled :
    let idle : State := { stalled with stallOrigin := some .idle }
    (stalled.ready ∧
      stalled.findRead 0 ReadKind.isFaultPresent =
        some { tag := 0, kind := .faultPresent, address := 0x101000, live := true } ∧
      stalled.part = .stalled ∧ stalled.run = true ∧ stalled.stallOrigin = some .running) ∧
    stalled.beginsAdmitted ∧ { stalled with lastRetired := retiredOne.lastRetired }.beginsAdmitted ∧
    (idle.ready ∧ idle.base ≠ 0 ∧ { idle with boardLo := 0 }.base = 0) ∧
    { stalled with run := false }.ready ∧ (reading .faultPresent calm).part ≠ .stalled :=
  ⟨⟨ready_of (by decide +kernel), by decide +kernel⟩, begins_of rfl, begins_of (by decide +kernel),
    ⟨ready_of (by decide +kernel), by decide +kernel⟩, ready_of (by decide +kernel), by decide +kernel⟩

/-- A last retired ticket outside the board ticket area, no window admitting it. -/
def far (s : State) : State :=
  { s with lastRetired := some { address := 0x103000, sequence := 4294967295, link := 0 } }

/-- A buffered ticket there, in execution. -/
def farBehind : State :=
  { behind with buffer := [.ticket { ticketOf 2 [] with address := 0x103000 }] }

/-- The ticket whose link is to be read again is no longer admitted: at a start, at a NUDGE and a poll expiry, at a
held re-read, on leaving STALLED, and when a stopped part starts again. -/
theorem test_witness_reread_not_admitted :
    let tk : Ticket := { ticketOf 0x15 [31] with address := 0x103000 }
    let stops : State := { holding tk calm with stopping := true }
    let held (x : State) : State := { reading .link x with reader := .rereading, rereadRequest := true }
    ((far declared).ready ∧ (far calm).ready ∧ farBehind.ready ∧ (held (far calm)).ready ∧
      (held farBehind).ready ∧ (far stalled).ready ∧ stops.ready) ∧
    ((far declared).part = .idle ∧ (far declared).run = false ∧ (far declared).base ≠ 0 ∧
      (far declared).ticketAdmitted 0x103000 = false ∧ (far declared).buffer = [] ∧
      (far declared).execution = none ∧ (far declared).faultPresent = false) ∧
    ((far calm).reader = .waiting ∧ (far calm).ticketAdmitted 0x103000 = false ∧ calm.buffer = [] ∧
      { far calm with pollTimer := some 0 }.stopping = false) ∧
    (farBehind.buffer = [] ++ [.ticket { ticketOf 2 [] with address := 0x103000 }] ∧
      farBehind.reader = .waiting ∧ farBehind.execution ≠ none ∧
      farBehind.ticketAdmitted 0x103000 = false) ∧
    (held farBehind).findRead 0 ReadKind.isReread =
      some { tag := 0, kind := .link, address := 0x101000, live := true } ∧
    ((far stalled).part = .stalled ∧ (far stalled).run = true ∧ (far stalled).stopping = false ∧
      (far stalled).stallOrigin = some .running ∧
      { far stalled with stallOrigin := some .idle }.base ≠ 0) ∧
    (stops.executing kindPurge = some tk ∧ stops.run = true ∧
      (purgeOwner tk stops).1.ticketAdmitted 0x103000 = false ∧ stops.faultPresent = false) :=
  ⟨⟨ready_of (by decide +kernel), calm_ready, calm_ready, calm_ready, calm_ready,
    ready_of (by decide +kernel), calm_ready⟩, by decide +kernel⟩

theorem test_witness_FreezeReadSetsTheCopy :
    (reading .freeze calm).ready ∧
      (reading .freeze calm).findRead 0 ReadKind.isFreeze =
        some { tag := 0, kind := .freeze, address := 0x101000, live := true } ∧
      (reading .freeze calm).part ≠ .halted ∧ (reading .freeze calm).base ≠ 0 :=
  ⟨ready_of (by decide +kernel), by decide +kernel⟩

/-- A note. -/
def aNote : Note := calm.plainNote .siteLost (some 3) 1

/-- The room read in flight, with this write index and these notes held. -/
def awaitingRoom (w : Nat) (full : Bool) (held : List Note) : State :=
  reading (.readIndex true)
    { calm with writeIndex := w, roomReadInFlight := true, notesFull := full, heldNotes := held,
                interruptOutstanding := true }

theorem test_witness_RoomReadReturns :
    let count (s : State) : Nat := { s with readIndex := (0 : Reg).toNat }.noteCount
    let two := { awaitingRoom 254 true [aNote, aNote] with interruptOutstanding := false }
    (two.ready ∧
      two.findRead 0 ReadKind.isReadIndex =
        some { tag := 0, kind := .readIndex true, address := 0x101000, live := true } ∧
      two.part ≠ .halted ∧ two.base ≠ 0) ∧
    (count two = 254 ∧ min two.heldNotes.length (256 - count two) = 2 ∧ two.notesFull = true ∧
      two.interruptOutstanding = false) ∧
    (count (awaitingRoom 255 false [aNote, aNote]) = 255 ∧
      (awaitingRoom 255 false [aNote, aNote]).heldNotes.length = 2) ∧
    256 ≤ count (awaitingRoom 256 true []) ∧ 256 ≤ count (awaitingRoom 256 false [aNote]) :=
  ⟨⟨ready_of (by decide +kernel), by decide +kernel⟩, by decide +kernel⟩

theorem test_witness_BoardReadFaultIsRecorded :
    (reading .freeze declared).ready ∧
      (reading .freeze declared).findRead 0 ReadKind.isHeader =
        some { tag := 0, kind := .freeze, address := 0x101000, live := true } ∧
      (reading .freeze declared).part = .idle ∧ (reading .freeze declared).faultPresent = false ∧
      (reading .runTag calm).part = .running ∧ (awaitingRoom 0 false [aNote]).faultPresent = false ∧
      (awaitingRoom 0 false [aNote]).findRead 0 ReadKind.isHeader =
        some { tag := 0, kind := .readIndex true, address := 0x101000, live := true } :=
  ⟨ready_of (by decide +kernel), by decide +kernel⟩

/-- The CHAIN_FAULT note finds room, the ring full, eight notes held, NOTES_FULL standing, and no base. -/
theorem test_witness_BoardReadFault_note :
    let eight := awaitingRoom 256 false (List.replicate 8 aNote)
    (awaitingRoom 255 false []).noteRoom ∧ (awaitingRoom 256 false []).noteCount = 256 ∧
      (eight.ready ∧ eight.heldNotes.length = 8) ∧ (awaitingRoom 0 true []).notesFull = true ∧
      (reading .freeze State.reset).base = 0 :=
  ⟨by unfold State.noteRoom; decide +kernel, by decide +kernel,
    ⟨ready_of (by decide +kernel), by decide +kernel⟩, by decide +kernel⟩

theorem test_witness_SecondFaultHalts :
    stalled.ready ∧
      stalled.findRead 0 ReadKind.isHeader =
        some { tag := 0, kind := .faultPresent, address := 0x101000, live := true } ∧
      stalled.part ≠ .halted ∧ stalled.faultPresent = true :=
  ⟨ready_of (by decide +kernel), by decide +kernel⟩

theorem test_witness_ChainPollExpiry :
    { calm with part := .stalled, pollTimer := some 0 }.ready ∧
      ({ retiredOne with pollTimer := some 0 }.ready ∧ retiredOne.reader = .waiting ∧
        retiredOne.buffer = [] ∧ retiredOne.ticketAdmitted 0x102F80 = true) ∧
      ({ behind with pollTimer := some 0 }.ready ∧ behind.reader = .waiting ∧
        behind.buffer = [] ++ [.ticket (ticketOf 2 [])] ∧ behind.ticketAdmitted 0x101000 = true) ∧
      ({ calm with pollTimer := some 0, reader := .rereading }.ready ∧ calm.lastRetired = none) ∧
      ((reading .chainEntry { calm with pollTimer := some 0, reader := .fetching }).ready ∧
        (reading .chainEntry calm).reads =
          [{ tag := 0, kind := .chainEntry, address := 0x101000, live := true }]) ∧
      { calm with pollTimer := some 0, reader := .full }.ready ∧
      { calm with pollTimer := some 1 }.pollTimer ≠ some 0 :=
  ⟨calm_ready, ⟨ready_of (by decide +kernel), by decide +kernel⟩, ⟨calm_ready, by decide +kernel⟩,
    ⟨calm_ready, rfl⟩, ⟨calm_ready, rfl⟩, calm_ready, by decide +kernel⟩

/-- The body of a WINDOW ticket. -/
def windowBody (n action kind : Byte) (base granules : Nat) : List Byte :=
  [n, action, kind] ++ zeros 5 ++ le 8 base ++ le 4 granules

theorem test_witness_WindowTicket :
    (∀ b, (holding (ticketOf 0x01 b) calm).ready ∧ (holding (ticketOf 0x01 b) calm).alone (ticketOf 0x01 b)) ∧
    (let b := windowBody 15 1 2 0xFFFFFFFFF0000000 65536
     field b 0x00 1 < 16 ∧ field b 0x01 1 = 1 ∧ field b 0x02 1 = 2 ∧ field b 0x08 8 % 4096 = 0 ∧
       1 ≤ field b 0x10 4 ∧ field b 0x10 4 ≤ 65536 ∧
       field b 0x08 8 + field b 0x10 4 * 4096 = 2 ^ 64) ∧
    field (windowBody 0 2 0 0 0) 0x01 1 = 2 ∧ field (windowBody 0 3 0 0 0) 0x01 1 = 3 ∧
    15 < field (windowBody 16 1 1 0 1) 0x00 1 ∧
    2 ^ 64 < field (windowBody 0 1 1 0xFFFFFFFFF0001000 65536) 0x08 8 +
      field (windowBody 0 1 1 0xFFFFFFFFF0001000 65536) 0x10 4 * 4096 :=
  ⟨fun _ => ⟨holding_ready _, holding_alone _⟩, by decide +kernel⟩

/-- One write waits. -/
def oneWrite (s : State) : State := { s with issued := [{ write := .msi, stale := false }] }

theorem test_witness_FenceTicket :
    let s := holding (ticketOf 2 []) calm
    (s.part = .running ∧ s.stopping = false ∧ s.buffer = [.ticket (ticketOf 2 [])] ∧
      s.reader = .waiting ∧ (oneWrite s).issued.length ≠ 0) ∧
    s.ready ∧ (oneWrite { s with execution := some (.fence 1) }).ready :=
  ⟨by decide +kernel, holding_ready _, ready_of (by decide +kernel)⟩

/-- The body of a SITE ticket for site 3 with these flags, lane and station, and otherwise the defaults. -/
def siteBody (flags lane station : Nat) : List Byte :=
  [3, BitVec.ofNat 8 flags, BitVec.ofNat 8 lane, 0] ++ le 2 station ++ le 2 1000 ++ [4, 14, 3, 8] ++
    le 2 2000 ++ le 2 10000 ++ zeros 16 ++ zeros 32

/-- No entry, no target and no other site stands against the ticket. -/
theorem free_of_calm {s : State} (h : s.deliveries = calm.deliveries) (h1 : s.targets = calm.targets)
    (l : Vector (Nat × Nat) 8) :
    (∀ j d, s.entry j = some d → d.site ≠ 3) ∧
      ∀ e q v, (s.target e 3).pending = some v ∨
          (s.target e 3).state = .sent ∧ (s.target e 3).lastSent = some v →
        (getAt l q).1 ≤ getAt v q ∧ getAt v q ≤ (getAt l q).2 := by
  constructor
  · intro j d hj
    rw [entry_of_deliveries h, calm_entry] at hj; cases hj
  · intro e q v hv
    have h2 : s.target e 3 = TargetRecord.reset := by
      unfold State.target; rw [h1]; exact calm_target e 3
    rw [h2] at hv
    rcases hv with hv | ⟨hv, -⟩ <;> cases hv

/-- A SITE ticket of these values passes the checks of R34. -/
def siteFits (flags lane station : Nat) (l : Fin 4) (s : State) : Bool :=
  let b := SiteBody.parse (siteBody flags lane station)
  let r := b.record l
  decide (b.site = 3 ∧ b.lane = l.val ∧ r.station ≤ 4095 ∧
    (r.enabled = true → r.station ≠ 0 ∧
      ∀ j : Fin 16, j ≠ 3 → (s.site j).enabled = true → (s.site j).station ≠ r.station) ∧
    ∀ q, (getAt r.limits q).1 ≤ (getAt r.limits q).2)

theorem test_witness_SiteTicket :
    (holding (ticketOf 0x03 (siteBody 1 3 4095)) calm).ready ∧
      (holding (ticketOf 0x03 (siteBody 1 3 4095)) calm).alone (ticketOf 0x03 (siteBody 1 3 4095)) ∧
      (siteFits 1 3 4095 3 calm && siteFits 0 0 0 0 (configured calm) &&
        siteFits 1 0 4095 0 (configured calm) && siteFits 1 2 55 2 (configured calm) &&
        siteFits 0 2 55 2 calm && siteFits 0 0 0 0 calm) = true ∧
      (configured calm).deliveries = calm.deliveries ∧ (configured calm).targets = calm.targets ∧
      (calm.site 3).lane = 0 ∧ (calm.site 3).station = 0 ∧ ((configured calm).site 3).pace = 1000 :=
  ⟨holding_ready _, holding_alone _, by decide +kernel, rfl, rfl, by decide +kernel⟩

/-- A site whose pace differs from the ticket's, and a queue with room for the retirement alone. -/
theorem test_witness_SiteTicket_pace_and_waiting :
    let s := (configured calm).setSite 3 { (configured calm).site 3 with pace := 60000 }
    let q : State := { calm with queue := List.replicate 252 .msi }
    siteFits 1 2 55 2 s = true ∧ (s.site 3).pace ≠ 1000 ∧
      (holding (ticketOf 0x03 (siteBody 1 3 4095)) q).ready ∧ q.base ≠ 0 ∧
      (q.retirementWrites (ticketOf 0x03 (siteBody 1 3 4095)) ⟨.ok, 0, 0, 0⟩).length = 4 :=
  ⟨by decide +kernel, by decide +kernel, ready_of (by decide +kernel), by decide +kernel⟩

/-- The body of an EDITION ticket for edition 31. -/
def editionBody (defined : Byte) (code : Nat) : List Byte := [31, defined] ++ le 2 code ++ zeros 68

theorem test_witness_EditionTicket :
    let s := holding (ticketOf 0x04 (editionBody 1 900)) calm
    let b := EditionBody.parse (editionBody 1 900)
    (s.ready ∧ s.alone (ticketOf 0x04 (editionBody 1 900))) ∧
      (b.edition = 31 ∧ b.defined = true ∧ (EditionBody.parse (editionBody 0 0)).defined = false ∧
        ∀ x : Fin 32, x ≠ 31 → (s.edition x).defined = true → (s.edition x).code ≠ b.code) ∧
      (∀ j d, s.entry j = some d → d.edition ≠ 31) ∧
      ∀ i, (s.target 31 i).state ≠ .pending ∧ (s.target 31 i).state ≠ .sent := by
  refine ⟨⟨holding_ready _, holding_alone _⟩, by decide +kernel, ?_, ?_⟩
  · intro j d h
    have h1 : calm.entry j = some d := h
    rw [calm_entry] at h1; cases h1
  · intro i
    have h : (holding (ticketOf 0x04 (editionBody 1 900)) calm).target 31 i = TargetRecord.reset :=
      calm_target 31 i
    rw [h]; decide

theorem test_witness_LaneTicket :
    (∀ b, (holding (ticketOf 0x05 b) calm).ready ∧ (holding (ticketOf 0x05 b) calm).alone (ticketOf 0x05 b)) ∧
      (LaneBody.parse [3, 1, 0, 0]).lane = 3 ∧ (LaneBody.parse [3, 1, 0, 0]).standby = 0 ∧
      (LaneBody.parse [3, 0, 255, 255]).standby = 0xFF ∧ (calm.lane 3).enable = false ∧
      (LaneBody.parse [3, 1, 0, 0]).enable = true ∧
      ((calm.setLane 3 { Lane.reset true with enable := true, state := .up }).lane 3).enable = true :=
  ⟨fun _ => ⟨holding_ready _, holding_alone _⟩, by decide +kernel⟩

/-- An UP lane with a site, disabled with its standby lane UP and with none. -/
theorem test_witness_LaneTicket_disabled :
    let s := (night .online .up (page .sending)).setLane 0 { Lane.reset true with enable := true, state := .up }
    let b := LaneBody.parse [2, 2, 0, 10]
    (b.enable = false ∧ b.failover = true ∧ b.standby = 0) ∧ (s.lane 2).enable = true ∧
      (s.lane 2).state = .up ∧ s.standbyUp 2 b.failover (some 0) = some 0 ∧
      s.standbyUp 2 false none = none ∧ (s.site 3).lane = 2 := by decide +kernel

theorem test_witness_ClockTicket :
    (holding (ticketOf 0x06 (le 4 4294967295)) calm).ready ∧
      (holding (ticketOf 0x06 (le 4 4294967295)) calm).alone (ticketOf 0x06 (le 4 4294967295)) :=
  ⟨holding_ready _, holding_alone _⟩

/-- A RELEASE of section 15, page 255, version 255, of the greatest size. -/
def releaseBody : List Byte :=
  [5, 15] ++ le 2 255 ++ le 2 255 ++ zeros 2 ++ le 4 268435456 ++ le 4 0 ++ le 8 0x40000000

/-- A DATA window of 256 MiB. -/
def windowed (s : State) : State :=
  { s with windows := putAt s.windows 0
                        { valid := true, kind := .data, base := 0x40000000, granules := 65536 } }

theorem test_witness_ReleaseTicket :
    let s := holding (ticketOf 0x10 releaseBody) (windowed (configured calm))
    let b := ReleaseBody.parse releaseBody
    (s.ready ∧ s.alone (ticketOf 0x10 releaseBody)) ∧
      (b.edition = 5 ∧ (s.edition 5).defined = true ∧ s.subscribers 5 = [3] ∧
        (b.sect, b.page, b.version, b.size) = (15, 255, 255, 268435456) ∧
        s.dataAdmitted b.dataAddress b.size = true ∧ s.freeCount = 4096) ∧
      ∀ j d, s.entry j = some d → d.version < b.version := by
  refine ⟨⟨ready_of (by decide +kernel), alone_of (by decide +kernel)⟩, by decide +kernel, ?_⟩
  intro j d h
  have h1 : calm.entry j = some d := h
  rw [calm_entry] at h1; cases h1

/-- A release whose key the last entry holds as PLATED, with one free slot in the note ring. -/
theorem test_witness_ReleaseTicket_replate :
    let old : Delivery := { page .plated with sect := 15, page := 255, version := 254 }
    let s := holding (ticketOf 0x10 releaseBody)
      { (windowed (configured calm)).setSlot 4095 { generation := 1, use := some old } with
        writeIndex := 255 }
    (s.ready ∧ s.alone (ticketOf 0x10 releaseBody)) ∧ s.currentOf 3 (5, 15, 255) = some (4095, old) ∧
      s.base ≠ 0 ∧ s.notesFull = false ∧ s.heldNotes = [] ∧ s.noteCount + 1 ≤ 256 ∧
      s.firstFree = some 0 ∧ s.dataAdmitted 0x40000000 268435456 = true :=
  ⟨⟨ready_of (by decide +kernel), alone_of (by decide +kernel)⟩, by decide +kernel⟩

theorem test_witness_HoldAndResumeTickets :
    (∀ k b, (holding (ticketOf k b) calm).ready ∧ (holding (ticketOf k b) calm).alone (ticketOf k b)) ∧
      (PatternBody.parse [15, 0, 31, 15, 255, 0]).badField = false ∧
      (PatternBody.parse [0xFF, 7, 0, 0, 0, 0]).badField = false :=
  ⟨fun _ _ => ⟨holding_ready _, holding_alone _⟩, by decide +kernel⟩

theorem test_witness_RecallTicket :
    (holding (ticketOf 0x13 [15, 0, 31, 15, 255, 0]) calm).alone
        (ticketOf 0x13 [15, 0, 31, 15, 255, 0]) ∧
      (PatternBody.parse [15, 0, 31, 15, 255, 0]).badField = false ∧
      (PatternBody.parse [3, 0, 5, 0, 1, 0]).fits (page .delivered) = true ∧
      (night .lost .up (page .plated)).entry 4095 = some (page .plated) ∧
      calm.base ≠ 0 ∧ calm.notesFull = false ∧ calm.heldNotes = [] ∧ calm.noteCount + 0 + 1 ≤ 256 :=
  ⟨holding_alone _, by decide +kernel⟩

theorem test_witness_RetryTicket :
    (holding (ticketOf 0x14 [3, 0, 5, 0, 1, 0]) (night .lost .up (page .failed))).alone
        (ticketOf 0x14 [3, 0, 5, 0, 1, 0]) ∧
      (holding (ticketOf 0x14 [3, 0, 5, 0, 1, 0]) (night .lost .up (page .failed))).ready ∧
      (PatternBody.parse [3, 0, 5, 0, 1, 0]).badField = false ∧
      (PatternBody.parse [3, 0, 5, 0, 1, 0]).fits (page .failed) = true :=
  ⟨alone_of (by decide +kernel), ready_of (by decide +kernel), by decide +kernel⟩

theorem test_witness_PurgeTicket :
    (∀ b, (holding (ticketOf 0x15 b) calm).ready ∧ (holding (ticketOf 0x15 b) calm).alone (ticketOf 0x15 b)) ∧
      field [(31 : Byte)] 0x00 1 ≤ 31 ∧ 31 < field [(32 : Byte)] 0x00 1 :=
  ⟨fun _ => ⟨holding_ready _, holding_alone _⟩, by decide +kernel⟩

/-- The greatest master values. -/
def masters : List Byte :=
  [5, 0] ++ le 2 3000 ++ le 2 3000 ++ le 2 3000 ++ le 2 3000 ++ le 2 400 ++ le 2 400 ++ le 2 400 ++ le 2 400

theorem test_witness_TargetTicket :
    let s := holding (ticketOf 0x20 masters) (configured calm)
    let b := TargetBody.parse masters
    s.ready ∧ s.alone (ticketOf 0x20 masters) ∧ b.edition = 5 ∧ (s.edition 5).defined = true ∧
      s.subscribers 5 = [3] ∧ (∀ q : Fin 8, getAt b.masters q ≤ if q.val < 4 then 3000 else 400) ∧
      (s.target 5 3).lastSent = none ∧
      (({ s with targets := putAt s.targets (pairIndex 5 3)
                   { TargetRecord.reset with lastSent := some b.masters } }.target 5 3).lastSent =
        some b.masters) ∧
      clampedCount { s.site 3 with offsets := Vector.replicate 8 1 } b.masters = 8 :=
  ⟨ready_of (by decide +kernel), alone_of (by decide +kernel), by decide +kernel⟩

theorem test_witness_TicketRefusals :
    (∀ k b, (holding (ticketOf k b) calm).ready ∧ (holding (ticketOf k b) calm).alone (ticketOf k b)) ∧
      15 < field [(16 : Byte)] 0x00 1 ∧ 3 < field [(0 : Byte), 1, 4] 0x02 1 ∧
      31 < field [(32 : Byte)] 0x00 1 ∧ field [(2 : Byte), 1, 2] 0x02 1 = field [(2 : Byte), 1, 2] 0x00 1 ∧
      (15 < (PatternBody.parse [16, 7]).selector ∧ (PatternBody.parse [16, 7]).selector ≠ 0xFF) ∧
      (PatternBody.parse [0, 3, 0, 0, 0, 1]).page = 256 ∧
      0x07 ∉ [0x01, 0x02, 0x03, 0x04, 0x05, 0x06, 0x10, 0x11, 0x12, 0x13, 0x14, 0x15, 0x20] :=
  ⟨fun _ _ => ⟨holding_ready _, holding_alone _⟩, by decide +kernel⟩

/-- SITE: a station above 4,095, one taken by another site, limits crossed, and a site with an entry. -/
theorem test_witness_TicketRefusals_site :
    let s := configured calm
    let r (station : Nat) := (SiteBody.parse (siteBody 1 2 station)).record 2
    4095 < (r 4096).station ∧
      ((r 55).enabled = true ∧ (s.site 3).enabled = true ∧ (s.site 3).station = (r 55).station) ∧
      (let x := (SiteBody.parse (siteBody 1 2 55 |>.set 0x20 1)).record 2
       (getAt x.limits 0).2 < (getAt x.limits 0).1) ∧
      ((night .lost .up (page .waiting)).site 3).enabled = true ∧
      ((SiteBody.parse (siteBody 0 2 55)).record 2).enabled = false ∧
      (night .lost .up (page .waiting)).entry 4095 = some (page .waiting) := by decide +kernel

/-- EDITION: a code that another edition has, and an edition in use. -/
theorem test_witness_TicketRefusals_edition :
    let s := night .lost .up (page .waiting)
    (EditionBody.parse (editionBody 1 900)).code = (s.edition 5).code ∧ (s.edition 5).defined = true ∧
      (page .waiting).edition = 5 ∧ (EditionBody.parse ([5, 1] ++ le 2 901)).code ≠ (s.edition 5).code ∧
      (EditionBody.parse [5, 0]).defined = false := by decide +kernel

/-- RELEASE: every check fails on some ticket that passes those before it. -/
theorem test_witness_TicketRefusals_release :
    let s := windowed (configured calm)
    let n := windowed (night .lost .up { page .waiting with version := 255, sect := 15, page := 255 })
    let b := ReleaseBody.parse releaseBody
    (s.edition 0).defined = false ∧
      ((s.setEdition 0 { Edition.reset with defined := true }).edition 0).defined = true ∧
      (s.setEdition 0 { Edition.reset with defined := true }).subscribers 0 = [] ∧
      (s.subscribers 5 = [3] ∧ (ReleaseBody.parse (releaseBody.set 1 16)).sect = 16) ∧
      (configured calm).dataAdmitted b.dataAddress b.size = false ∧
      (n.subscribers 5 = [3] ∧ n.dataAdmitted b.dataAddress b.size = true ∧
        (n.entry 4095).map Delivery.key = some (5, b.sect, b.page) ∧
        (n.entry 4095).map Delivery.version = some b.version) := by decide +kernel

/-- A table with no free entry. -/
theorem test_witness_TicketRefusals_table_full :
    { windowed (configured calm) with
      deliveries := Vector.replicate 4096 { generation := 1, use := some (page .failed) } }.freeCount =
      0 := by decide +kernel

theorem test_witness_TicketRefusals_target :
    let s := configured calm
    (s.edition 0).defined = false ∧ s.subscribers 5 = [3] ∧
      (if (7 : Fin 8).val < 4 then 3000 else 400) <
        getAt (TargetBody.parse ([5, 0] ++ zeros 14 ++ le 2 401)).masters 7 := by decide +kernel

theorem test_witness_RefusedTicketHasNoEffect :
    (kindPurge, Instr.purge, purgeOwner) ∈ ticketOwners ∧
      (holding (ticketOf 0x15 [32]) calm).ready ∧
      (holding (ticketOf 0x15 [32]) calm).alone (ticketOf 0x15 [32]) ∧
      (purgeOwner (ticketOf 0x15 [32]) (holding (ticketOf 0x15 [32]) calm)).2.code ≠ .ok :=
  ⟨by simp [ticketOwners], holding_ready _, holding_alone _, by decide +kernel⟩

theorem test_witness_EveryTicketRetires :
    (kindTarget, Instr.target, targetOwner) ∈ ticketOwners ∧
      (holding (ticketOf 0x20 masters) calm).ready ∧
      (holding (ticketOf 0x20 masters) calm).executing kindTarget = some (ticketOf 0x20 masters) ∧
      (holding (ticketOf 0x7F []) calm).executingUnknown = some (ticketOf 0x7F []) ∧
      (holding (ticketOf 2 []) calm).executing 0x02 = some (ticketOf 2 []) ∧
      calm.issued = [] ∧ calm.queue = [] ∧
      { holding (ticketOf 2 []) calm with execution := some (.fence 0) }.buffer =
        .ticket (ticketOf 2 []) :: [] :=
  ⟨by simp [ticketOwners], holding_ready _, rfl, by decide +kernel, rfl, rfl, rfl, rfl⟩

/-- A PURGE in execution: while the part stops, with RUN 0 and with RUN 1 again, and with tickets behind it in a
buffer of two and in a full one. -/
theorem test_witness_EveryTicketRetires_and_goes_on :
    let tk := ticketOf 0x15 [31]
    let nx : Ticket := { ticketOf 0x15 [31] with address := 0x101080, sequence := 8, link := 0x102F80 }
    let stops (run : Bool) : State := { holding tk calm with stopping := true, run := run }
    let two : State := { holding tk calm with buffer := [.ticket tk, .ticket nx] }
    let four : State :=
      { holding tk calm with
        buffer := [.ticket tk, .ticket nx, .ticket nx, .ticket nx], reader := .full }
    ((stops true).ready ∧ two.ready ∧ four.ready) ∧
      ((stops true).executing kindPurge = some tk ∧ (stops false).run = false ∧
        (stops true).buffer = [.ticket tk] ∧ (purgeOwner tk (stops true)).1.ticketAdmitted tk.address = true ∧
        { stops true with boardLo := 0 }.base = 0) ∧
      (two.executing kindPurge = some tk ∧ two.reader ≠ .full ∧ nx.posting = 0x5A ∧
        nx.sequence = (tk.sequence + 1) % 4294967296) ∧
      four.executing kindPurge = some tk ∧ nx.link % 128 = 0 ∧
        (purgeOwner tk four).1.ticketAdmitted nx.link = true :=
  ⟨⟨calm_ready, calm_ready, calm_ready⟩, by decide +kernel⟩

theorem test_witness_PostedWriteFailureIsLatched :
    calm.issued[0]? = none ∧
      (oneWrite calm).issued[0]? = some { write := .msi, stale := false } ∧
      { calm with issued := [{ write := calm.boardWrite 0x014 [0], stale := false }] }.issued[0]? =
        some { write := .board 0x100014 0x014 [0], stale := false } ∧
      calm.latch = none := ⟨rfl, rfl, by decide +kernel, rfl⟩

/-- The queue with this many writes. -/
def queued (n : Nat) (s : State) : State := { s with queue := List.replicate n .msi }

theorem test_witness_QueueRoomLetsWaitingEventsGo :
    let w : State := { queued 256 calm with waiting := [.command .window] }
    (calm.handed = [] ∧ calm.part ≠ .halted ∧ (queued 255 calm).queue.length < 256 ∧
      256 ≤ (queued 256 calm).queue.length ∧ calm.waiting = []) ∧
    (w.waiting = [.command .window] ∧ drains .window = false ∧ isReset .window = false) ∧
    ((queued 256 declared).part = .idle ∧ (queued 256 declared).run = false ∧
      (queued 256 declared).base ≠ 0) ∧
    (((queued 256 calm).setEngine 3 { Engine.reset with state := .lost, probeTimer := some 0 }).engine
      3).probeTimer = some 0 := by decide +kernel

/-- Room lets a WINDOW ticket that waited go, and nothing waits after it. -/
theorem test_witness_QueueRoom_waiting_command :
    let s := holding (ticketOf 1 []) (queued 255 calm)
    exec .window s = .next (after .window s) ∧ (after .window s).waiting = [] ∧
      (after .window { s with queue := List.replicate 256 .msi }).waiting = [.command .window] :=
  ⟨rfl, by decide +kernel, by decide +kernel⟩

/-- The lane of site 3 with a frame out and nothing else to grant. -/
def sendingLane (s : State) : State :=
  s.setLane 2 { s.lane 2 with transmitter := .sending (s.probeFrame 3) }

/-- An ONLINE site with this entry, and its engine with these messages outstanding. -/
def supplying (d : Delivery) (out : List Outstanding) : State :=
  sendingLane ((night .online .up d).setEngine 3
    { Engine.reset with state := .online, outstanding := out, probeDue := true })

/-- A grant of an OFFER waits while 256 writes are queued. -/
theorem test_witness_QueueRoom_waiting_grant :
    (queued 256 (supplying (page .waiting) [])).grantsTo 2 3 ∧
      (queued 256 (supplying (page .waiting) [])).report 3 = some (.offer 4095) ∧
      (after (.transmissionComplete 2) (queued 256 (supplying (page .waiting) []))).waiting =
        [.grant 2] :=
  ⟨grantsTo_of (f := calm.probeFrame 3 |> fun f => { f with addressee := 55 }.checked)
    (by decide +kernel), by decide +kernel⟩

/-- The segment read of the last entry's first 32,768 bytes. -/
def segment (resend : Bool) : SegmentRead :=
  { site := 3, lane := 2, index := 4095, generation := 1, offset := 0, length := 32768,
    resend := resend, holds := true }

/-- Its lane granted to it. -/
def granted (resend : Bool) (s : State) : State :=
  (reading (.segment (segment resend)) s).setLane 2
    { s.lane 2 with transmitter := .granted 3 }

theorem test_witness_SegmentDataArrives :
    (let s := granted false (night .online .up (page .sending))
     s.ready ∧
       (s.findRead 0 ReadKind.isSegment =
          some { tag := 0, kind := .segment (segment false), address := 0x101000, live := true } ∧
        s.part ≠ .halted ∧ s.named ⟨4095, 1⟩ = some (page .sending) ∧ (s.engine 3).state = .online ∧
        (s.site 3).lane = 2 ∧ (s.lane 2).state = .up ∧ (s.lane 2).transmitter = .granted 3)) ∧
    (let s := (granted true (night .online .up (page .sending))).setEngine 3
       { Engine.reset with
         state := .online,
         outstanding := [{ message := .segment ⟨4095, 1⟩ 0 32768, resend := false }] }
     s.ready ∧ s.named ⟨4095, 1⟩ = some (page .sending) ∧
       ∃ o ∈ (s.engine 3).outstanding, o.message = .segment ⟨4095, 1⟩ 0 32768) ∧
    (granted false (night .online .up (page .failed))).named ⟨4095, 1⟩ = some (page .failed) := by
  refine ⟨⟨ready_of (by decide +kernel), by decide +kernel⟩,
    ⟨ready_of (by decide +kernel), by decide +kernel, ?_⟩, by decide +kernel⟩
  simp only [setEngine_engine_same]
  exact ⟨_, List.mem_cons_self, rfl⟩

theorem test_witness_SegmentReadErrorFailsTheEntry :
    (granted false (night .online .up (page .sending))).ready ∧
      (granted false (night .online .up (page .sending))).named ⟨4095, 1⟩ = some (page .sending) ∧
      (granted false (night .online .up (page .withdrawing))).named ⟨4095, 1⟩ =
        some (page .withdrawing) :=
  ⟨ready_of (by decide +kernel), by decide +kernel⟩

/-- The read of a resent segment of an entry that is not SENDING, with the segment in the list, alone and with
another, and with it gone. -/
theorem test_witness_SegmentReadError_resent :
    let m (offset : Nat) : Outstanding := { message := .segment ⟨4095, 1⟩ offset 32768, resend := false }
    let s (out : List Outstanding) : State :=
      (granted true (night .online .up (page .waiting))).setEngine 3
        { Engine.reset with state := .online, outstanding := out }
    ((s [m 0]).ready ∧ (s []).ready) ∧ (s [m 0]).named ⟨4095, 1⟩ = some (page .waiting) ∧
      ((s [m 0]).engine 3).outstanding = [m 0] ∧ ((s []).engine 3).outstanding = [] ∧
      ((s [m 0, m 32768]).engine 3).outstanding.filter (fun o => decide (o.message ≠ (m 0).message)) =
        [m 32768] :=
  ⟨⟨ready_of (by decide +kernel), ready_of (by decide +kernel)⟩, by decide +kernel⟩

/-- The only entry of such a night. -/
theorem night_entry (site : SiteState) (lane : LaneState) (x : Delivery) (j : Fin 4096) (d : Delivery)
    (hj : (night site lane x).entry j = some d) : j = 4095 ∧ d = x := by
  have h1 : ((configured calm).setSlot 4095 { generation := 1, use := some x }).entry j = some d := hj
  rw [setSlot_entry] at h1
  split at h1
  · next h2 => exact ⟨h2.symm, (Option.some.inj h1).symm⟩
  · have h2 : calm.entry j = some d := h1
    rw [calm_entry] at h2; cases h2

/-- Its order of deliveries is as R86 and R87 ask. -/
theorem night_orders (site : SiteState) (lane : LaneState) (x : Delivery)
    (hx : x.state = .waiting ∨ x.state = .offered ∨ x.state = .sending) (h3 : x.state.inOrder = true)
    (hs : x.site = 3) : (night site lane x).ordersKept := by
  have h4 : (night site lane x).entry 4095 = some x := by
    show ((configured calm).setSlot 4095 { generation := 1, use := some x }).entry 4095 = some x
    rw [setSlot_entry]; simp
  have h5 : ∀ i : Fin 16, ((night site lane x).planner i).order = if i = 3 then [4095] else [] := by
    intro i
    show (getAt (putAt calm.planners 3 _) i).order = _
    rw [h3]; revert i; decide +kernel
  intro i
  rw [h5]
  refine ⟨(by split <;> simp), fun j => ⟨fun hj => ?_, fun ⟨d, hd, hs1, _⟩ => ?_⟩, (by split <;> simp)⟩
  · split at hj
    · next hi =>
      subst hi; rw [List.mem_singleton] at hj; subst hj
      exact ⟨x, h4, hs, hx⟩
    · cases hj
  · obtain ⟨rfl, rfl⟩ := night_entry _ _ _ _ _ hd
    have h6 : i = 3 := hs1.symm.trans hs
    rw [if_pos h6]; simp

/-- Site 3 with its receipt timer run out. -/
def silent (st : SiteState) (retry hello : Nat) : State :=
  (night st .up (page .sending)).setEngine 3
    { Engine.reset with state := st, receiptTimer := some 0, retry := retry, helloCount := hello }

theorem test_witness_ReceiptTimerResends :
    ((silent .online 2 0).ready ∧ (silent .online 2 0).part ≠ .halted) ∧
      (((silent .online 2 0).engine 3).receiptTimer = some 0 ∧ ((silent .online 2 0).engine 3).retry < 3) ∧
      (((silent .joining 0 3).engine 3).state = .joining ∧ ((silent .joining 0 3).engine 3).helloCount < 4) ∧
      (calm.engine 3).receiptTimer ≠ some 0 :=
  ⟨⟨ready_of (by decide +kernel), by decide +kernel⟩, by decide +kernel⟩

theorem test_witness_SilentSiteIsLost :
    (silent .online 3 0).ready ∧ (silent .online 3 0).part ≠ .halted ∧
      (((silent .online 3 0).engine 3).receiptTimer = some 0 ∧ 3 ≤ ((silent .online 3 0).engine 3).retry) ∧
      4 ≤ ((silent .joining 0 4).engine 3).helloCount :=
  ⟨ready_of (by decide +kernel), by decide +kernel⟩

/-- A silent site, a lane that goes DOWN and one disabled, with their orders kept and room for their notes. -/
theorem test_witness_notes_of_a_loss :
    (silent .online 3 0).ordersKept ∧ (night .online .up (page .sending)).ordersKept ∧
      ((night .online .up (page .sending)).carried 2 = [3] ∧ calm.base ≠ 0 ∧ calm.notesFull = false ∧
        calm.heldNotes = [] ∧ calm.noteCount + 4 ≤ 256) :=
  ⟨night_orders .online .up (page .sending) (.inr (.inr rfl)) rfl rfl,
    night_orders .online .up (page .sending) (.inr (.inr rfl)) rfl rfl, by decide +kernel⟩

theorem test_witness_ProbeTimerExpires :
    let s (st : SiteState) :=
      calm.setEngine 3 { Engine.reset with state := st, probeTimer := some 0 }
    ((s .online).ready ∧ (s .lost).ready) ∧ (s .online).part ≠ .halted ∧
      ((s .online).engine 3).probeTimer = some 0 ∧ ((s .online).engine 3).state = .online ∧
      ((s .lost).engine 3).state = .lost ∧ (calm.engine 3).probeTimer ≠ some 0 :=
  ⟨⟨ready_of (by decide +kernel), ready_of (by decide +kernel)⟩, by decide +kernel⟩

theorem test_witness_ReplanPredicts :
    let s := (night .lost .up (page .waiting)).setPlanner 3
      { Planner.reset with order := [4095], timer := some 250, expired := true }
    s.ready ∧ s.part ≠ .halted ∧ (s.planner 3).expired = true ∧ (s.site 3).enabled = true ∧
      (s.planner 3).order = [] ++ 4095 :: [] ∧ s.entry 4095 = some (page .waiting) ∧
      (page .waiting).state.inOrder = true ∧ (calm.planner 3).expired = false ∧
      (night .lost .up (page .failed)).entry 4095 = some (page .failed) :=
  ⟨ready_of (by decide +kernel), by decide +kernel⟩

theorem test_witness_ClockCountsMilliseconds :
    { calm with part := .halted }.part = .halted ∧ calm.part ≠ .halted := ⟨rfl, by decide⟩

theorem test_witness_LaneGoesDown :
    let s := night .online .up (page .sending)
    let q := s.setLane 2 { s.lane 2 with quietEnable := true, quietTimer := some 0 }
    let m := (s.setLane 2 { s.lane 2 with failover := true, standby := some 0 }).setLane 0
      { Lane.reset true with enable := true, state := .up }
    (s.ready ∧ s.part ≠ .halted ∧ (s.lane 2).state = .up ∧ (s.lane 2).carrier = true ∧
      s.standbyUp 2 (s.lane 2).failover (s.lane 2).standby = none) ∧
      ((q.lane 2).quietTimer = some 0 ∧ (q.lane 2).state = .up) ∧
      (m.ready ∧ m.standbyUp 2 (m.lane 2).failover (m.lane 2).standby = some 0 ∧
        (m.site 3).enabled = true ∧ (m.site 3).lane = 2) :=
  ⟨⟨ready_of (by decide +kernel), by decide +kernel⟩, by decide +kernel, ready_of (by decide +kernel),
    by decide +kernel⟩

theorem test_witness_LanePortEvents :
    let s := night .joining .up (page .waiting)
    let t := (sendingLane s).setEngine 3 { Engine.reset with state := .joining, helloDue := true }
    t.ready ∧ t.grantsTo 2 3 ∧ t.report 3 = some .hello ∧
      ((night .joining .down (page .waiting)).lane 2).carrier = true ∧ (calm.lane 2).carrier = false :=
  ⟨ready_of (by decide +kernel), grantsTo_of (f := (night .joining .up (page .waiting)).probeFrame 3)
    (by decide +kernel), by decide +kernel⟩

/-- The grants of an ONLINE site's new messages: each is what some engine reports. -/
theorem test_witness_LanePortEvents_new_messages :
    let t := (supplying (page .sending) []).setEngine 3
      { Engine.reset with state := .online, withdrawQueue := [⟨4095, 1⟩] }
    let c : State :=
      { supplying (page .plated) [] with
        targets := putAt calm.targets (pairIndex 5 3)
          { TargetRecord.reset with state := .pending, pending := some (Vector.replicate 8 0),
                                    number := 65535 } }
    let seg := supplying { page .sending with sent := 65535 } []
    (supplying (page .plated) []).report 3 = some .probe ∧ t.report 3 = some (.withdraw ⟨4095, 1⟩) ∧
      c.report 3 = some (.target 5) ∧ (c.target 5 3).pending.isSome = true ∧
      (supplying (page .waiting) []).report 3 = some (.offer 4095) ∧
      (seg.report 3 = some (.segment 4095) ∧ seg.dataAdmitted 0x40000000 65536 = false) ∧
      (windowed seg).report 3 = some (.segment 4095) ∧
      (windowed seg).dataAdmitted 0x40000000 65536 = true := by decide +kernel

/-- What is resent, and a message whose entry has gone on. -/
theorem test_witness_ArbiterRanksBids :
    let m : Message := .offer ⟨4095, 1⟩
    let s (st : DeliveryState) := supplying (page st) [{ message := m, resend := true }]
    let gone := (s .delivered).setEngine 3
      { (s .delivered).engine 3 with probeDue := false }
    ((s .offered).ready ∧ (s .offered).grantsTo 2 3) ∧
      (((s .offered).engine 3).state = .online ∧
        ((s .offered).engine 3).outstanding = [] ++ { message := m, resend := true } :: [] ∧
        (s .offered).report 3 = some (.resend m) ∧ (s .offered).named ⟨4095, 1⟩ = some (page .offered)) ∧
      (gone.named ⟨4095, 1⟩ = some (page .delivered) ∧
        (gone.setEngine 3 { gone.engine 3 with outstanding := [] }).report 3 = none) ∧
      ((supplying (page .plated) []).setEngine 3
        { Engine.reset with state := .online, probeResend := true }).report 3 = some .resendProbe :=
  ⟨⟨ready_of (by decide +kernel), grantsTo_of (f := (night .online .up (page .offered)).probeFrame 3)
    (by decide +kernel)⟩, by decide +kernel⟩

/-- The other messages that are resent. -/
theorem test_witness_ArbiterRanksBids_resends :
    let h : Handle := ⟨4095, 1⟩
    let s (st : DeliveryState) (m : Message) := windowed (supplying (page st) [{ message := m, resend := true }])
    let t : Message := .target 5 900 1 (Vector.replicate 8 0)
    (s .plated t).report 3 = some (.resend t) ∧
      ((s .withdrawing (.withdraw h)).report 3 = some (.resend (.withdraw h)) ∧
        ((s .withdrawing (.withdraw h)).named h).map Delivery.state = some .withdrawing) ∧
      ((s .sending (.segment h 0 32768)).report 3 = some (.resend (.segment h 0 32768)) ∧
        ((s .sending (.segment h 0 32768)).named h).map Delivery.state = some .sending ∧
        (s .sending (.segment h 0 32768)).dataAdmitted 0x40000000 65536 = true) := by decide +kernel

/-- Two sites on a lane: the WITHDRAW of the one goes before the PROBE of the other. -/
theorem test_witness_ArbiterRanksBids_two_sites :
    let s := ((supplying (page .plated) []).setSite 5
      { SiteRecord.reset with enabled := true, lane := 2, station := 56 }).setEngine 5
      { Engine.reset with state := .online, withdrawQueue := [⟨0, 0⟩] }
    s.ready ∧ ((s.lane 2).transmitter = .sending ((night .online .up (page .plated)).probeFrame 3) ∧
      s.part ≠ .halted ∧ (s.lane 2).state = .up ∧ (∀ m, m ≠ 2 → s.canGrant m = false) ∧
      s.carried 2 = [3, 5] ∧
      bestBid (s.bids (s.carried 2)) = some { site := 5, supply := .withdraw ⟨0, 0⟩, measure := none }) :=
  ⟨ready_of (by decide +kernel), by decide +kernel⟩

theorem test_witness_FramesAtALane :
    calm.ready ∧ (zeros 63).length < 0x40 ∧ Instr.welcome 2 (frame 0) ∈ siteMessages 2 (frame 0) ∧
      (calm.lane 2).state = .off ∧
      ((night .joining .up (page .waiting)).part ≠ .halted ∧
        ((night .joining .up (page .waiting)).lane 2).carrier = true ∧
        ((night .joining .up (page .waiting)).lane 2).state = .up) ∧
      (longFrame 32768).length.toNat ≤ 32768 ∧ (longFrame 32768).length ≠ 0 ∧
      ((night .joining .down (page .waiting)).lane 2).state = .down :=
  ⟨calm_ready, by decide, by simp [siteMessages], by decide +kernel⟩

theorem test_witness_WelcomeBringsOnline :
    let s := night .joining .down (page .waiting)
    ((night .joining .up (page .waiting)).ready ∧
      (night .joining .up (page .waiting)).reaches 2 (frame 0) 3) ∧
      ((night .joining .up (page .waiting)).engine 3).state = .joining ∧
      ((night .online .up (page .waiting)).engine 3).state = .online ∧
      (s.ready ∧ s.part ≠ .halted ∧ (s.lane 2).state = .down ∧ (s.lane 2).carrier = true ∧
        s.routeFrame 2 (frame 0) = some 3 ∧ (s.engine 3).state = .joining) :=
  ⟨⟨ready_of (by decide +kernel), reaches_of (by decide +kernel)⟩, by decide +kernel,
    by decide +kernel, ready_of (by decide +kernel), by decide +kernel⟩

theorem test_witness_ReceiptAnswers :
    ((night .online .up (page .sending)).ready ∧
      (night .online .up (page .sending)).reaches 2 (frame 0) 3 ∧
      (night .online .up (page .sending)).reports (frame 0) 3 ⟨4095, 1⟩ (page .sending) ∧
      ((night .online .up (page .sending)).engine 3).hasOffer ⟨4095, 1⟩ = false ∧
      (page .sending).acked ≤ (frame 0).count.toNat) ∧
    (frame 0).count.toNat < { page .sending with acked := 1 }.acked ∧
    (((night .online .up (page .offered)).setEngine 3
      { Engine.reset with
        state := .online,
        outstanding := [{ message := .offer ⟨4095, 1⟩, resend := false }] }).engine 3).hasOffer
          ⟨4095, 1⟩ = true :=
  ⟨⟨ready_of (by decide +kernel), reaches_of (by decide +kernel), reports_of (by decide +kernel), by decide +kernel⟩, by decide +kernel⟩

theorem test_witness_ReceiptsMeasureThePath :
    let d : Delivery := { page .sending with sent := 65536 }
    let s := (night .online .up d).setPlanner 3
      { Planner.reset with order := [4095], measurement := some { start := 0, bytes := 0 } }
    s.ready ∧ s.reaches 2 (frame 65536) 3 ∧ s.reports (frame 65536) 3 ⟨4095, 1⟩ d ∧
      (s.engine 3).hasOffer ⟨4095, 1⟩ = false ∧ d.acked < min (frame 65536).count.toNat d.sent ∧
      (s.planner 3).measurement = some { start := 0, bytes := 0 } ∧
      65536 ≤ 0 + (min (frame 65536).count.toNat d.sent - d.acked) ∧
      0 + (min (frame 65535).count.toNat d.sent - d.acked) < 65536 ∧
      s.base ≠ 0 ∧ s.notesFull = false ∧ s.heldNotes = [] ∧ s.noteCount < 255 :=
  ⟨ready_of (by decide +kernel), reaches_of (by decide +kernel), reports_of (by decide +kernel), by decide +kernel⟩

/-- The one SEGMENT outstanding is covered by the RECEIPT that closes the measurement, which delivers the entry, and
the drift counter reaches its compare. -/
theorem test_witness_ReceiptsMeasureThePath_note :
    let d : Delivery := { page .sending with sent := 65536 }
    let s := ((night .online .up d).setEngine 3
      { Engine.reset with
        state := .online,
        outstanding := [{ message := .segment ⟨4095, 1⟩ 32768 32768, resend := false }] }).setPlanner 3
      { Planner.reset with order := [4095], measurement := some { start := 0, bytes := 0 }, drift := -7 }
    let t := { s with clock := 1 }
    (t.ready ∧ t.reports (frame 65536) 3 ⟨4095, 1⟩ d) ∧
      ((t.engine 3).hasSegment = true ∧ (after (.receipt 2 (frame 65536)) t).engine 3 ≠ t.engine 3 ∧
        ((after (.receipt 2 (frame 65536)) t).engine 3).hasSegment = false) ∧
      (min (frame 65536).count.toNat d.sent = d.size ∧ (t.site 3).driftCompare = 8 ∧
        closingFactor 1000 4096 1 65536 < 4096 - 64 ∧ t.noteCount + 1 + 1 ≤ 256) :=
  ⟨⟨ready_of (by decide +kernel), reports_of (by decide +kernel)⟩, by decide +kernel⟩

theorem test_witness_RefuseRefusesTheOffer :
    let d : Delivery := page .offered
    (night .online .up d).ready ∧ (night .online .up d).reaches 2 (frame 0) 3 ∧
      (night .online .up d).reports (frame 0) 3 ⟨4095, 1⟩ d ∧ d.state = .offered :=
  ⟨ready_of (by decide +kernel), reaches_of (by decide +kernel), reports_of (by decide +kernel), by decide +kernel⟩

theorem test_witness_PlatedMarksTheEntry :
    let d : Delivery := page .delivered
    (night .online .up d).ready ∧ (night .online .up d).reaches 2 (frame 0) 3 ∧
      (night .online .up d).reports (frame 0) 3 ⟨4095, 1⟩ d :=
  ⟨ready_of (by decide +kernel), reaches_of (by decide +kernel), reports_of (by decide +kernel)⟩

theorem test_witness_WithdrawnFreesTheEntry :
    let d : Delivery := page .withdrawing
    (night .online .up d).ready ∧ (night .online .up d).reaches 2 (frame 0) 3 ∧
      (night .online .up d).reports (frame 0) 3 ⟨4095, 1⟩ d ∧ d.state = .withdrawing :=
  ⟨ready_of (by decide +kernel), reaches_of (by decide +kernel), reports_of (by decide +kernel), by decide +kernel⟩

theorem test_witness_TooLateMeansPlated :
    let d : Delivery := { page .withdrawing with current := false }
    let s := night .online .up d
    let t := s.setSlot 0 { generation := 2, use := some (page .plated) }
    (s.ready ∧ s.reaches 2 (frame 0) 3 ∧ s.reports (frame 0) 3 ⟨4095, 1⟩ d) ∧
      (d.current = false ∧ d.state = .withdrawing ∧ s.currentOf 3 d.key = none) ∧
      t.currentOf 3 d.key = some (0, page .plated) ∧ t.base ≠ 0 ∧ t.notesFull = false ∧
      t.heldNotes = [] ∧ t.noteCount < 256 :=
  ⟨⟨ready_of (by decide +kernel), reaches_of (by decide +kernel), reports_of (by decide +kernel)⟩,
    by decide +kernel⟩

theorem test_witness_TargetOkConfirms :
    let s := { night .online .up (page .waiting) with
      targets := putAt calm.targets (pairIndex 5 3)
        { TargetRecord.reset with
          state := .sent, lastSent := some (Vector.replicate 8 0), number := 4095 } }
    s.ready ∧ s.reaches 2 (frame 900) 3 ∧ (s.edition 5).defined = true ∧
      (s.edition 5).code = (frame 900).count.toNat % 65536 ∧
      (∀ k, (s.edition k).defined = true →
        (s.edition k).code = (frame 900).count.toNat % 65536 → k = 5) ∧
      (s.target 5 3).state = .sent ∧ (s.target 5 3).number = (frame 900).index.toNat ∧
      (s.target 5 3).number ≠ { frame 900 with index := 0 }.index.toNat :=
  ⟨ready_of (by decide +kernel), reaches_of (by decide +kernel), by decide +kernel⟩

theorem test_witness_EchoAnswersTheProbe :
    let s := (night .online .up (page .waiting)).setEngine 3
      { Engine.reset with state := .online, probeOutstanding := true }
    s.ready ∧ s.reaches 2 (frame 0) 3 ∧ (s.engine 3).probeOutstanding = true ∧
      ((night .online .up (page .waiting)).engine 3).probeOutstanding = false :=
  ⟨ready_of (by decide +kernel), reaches_of (by decide +kernel), by decide +kernel⟩

theorem test_witness_HaltedKeepsEverything :
    let s : State := { calm with part := .halted, waiting := [.grant 2] }
    s.part = .halted ∧ s.handed = [] ∧ s.noResetWaits ∧ isReset (.nudge 0) = false ∧
      exec (.nudge 0) s = .next (after (.nudge 0) s) ∧ s.pending = [] ∧ step s = .next s.idle :=
  ⟨rfl, rfl, fun _ h => (by simp at h), rfl, rfl, rfl, rfl⟩

theorem test_witness_QueueGrowsAtItsEnd :
    let waits : State := { holding (ticketOf 2 []) (oneWrite calm) with execution := some (.fence 1) }
    isReset .window = false ∧ drains .window = false ∧
      exec .window (holding (ticketOf 1 []) calm) =
        .next (after .window (holding (ticketOf 1 []) calm)) ∧
      (∀ n, Instr.window ≠ .postedWriteFailed n) ∧
      exec (.postedWriteFailed 0) (oneWrite calm) =
        .next (after (.postedWriteFailed 0) (oneWrite calm)) ∧
      calm.noResetWaits ∧
      exec .postedWriteQueueRoom calm = .next (after .postedWriteQueueRoom calm) ∧
      exec .fenceDrained waits = .next (after .fenceDrained waits) ∧ waits.part = .running ∧
      waits.execution = some (.fence 1) ∧
      exec .fenceDrained calm = .next calm ∧ calm.execution = none ∧
      calm.pending = [] ∧ calm.queue = [] ∧ step calm = .next calm.idle ∧
      { calm with queue := [.msi] }.queue ≠ [] :=
  ⟨rfl, rfl, rfl, nofun, rfl, fun _ h => (by cases h), rfl, rfl, rfl, rfl, rfl, rfl, rfl, rfl, rfl,
    by decide⟩

theorem test_witness_laws_of_every_step :
    State.reset.pacesInRange ∧ State.reset.boardAligned ∧ State.reset.faultShown ∧
      State.reset.noDataWaits ∧ State.reset.segmentsFit ∧
      step { State.reset with pending := [.nudge 0] } = .next (after (.nudge 0) State.reset) := by
  refine ⟨?_, rfl, ?_, fun _ _ h => (by cases h), fun r h => (by cases h), rfl⟩
  · unfold State.pacesInRange; decide +kernel
  · unfold State.faultShown; decide

/-- The laws of the delivery table with one entry, WAITING in the order of its site. -/
theorem test_witness_laws_of_one_entry :
    let s := night .online .up (page .waiting)
    s.ordersKept ∧ s.countsKept ∧ s.segmentsFit := by
  refine ⟨night_orders _ _ _ (.inl rfl) rfl rfl, ?_, fun r hr => (by cases hr)⟩
  intro j d hd
  obtain ⟨rfl, rfl⟩ := night_entry _ _ _ _ _ hd
  decide

end Sys2Proof.Tests
end

section
/-! What a second fault leaves (R28), what a WINDOW ticket makes of its entry (R19), and how a ticket
alone in the buffer is carried out and retires (R14, R15). -/

open Sys2Proof

namespace Sys2Proof.Machine

/-! ### Halting -/

/-- A part that is HALTED grants nothing (R171). -/
theorem noGrant_of_halted {s : State} (h : s.part = .halted) : s.noGrant := fun l => by
  simp [State.canGrant, h]

/-- An event with nothing handed that halts the part ends with the timers stopped, and writes nothing (R29). -/
theorem finish_of_halted {s : State} (h : s.part = .halted) (h0 : s.handed = []) :
    s.finish = s.haltCleanup := by
  unfold State.finish
  rw [flush_of_nil h0, arbitrateAll_of_noGrant (noGrant_of_halted h)]

/-- A live read that returns outside HALTED is taken off and has its effect (R6, R24, R29). -/
theorem onRead_of_live {s : State} {tag : Nat} {kind : ReadKind → Bool} {r : Read}
    (hr : s.findRead tag kind = some r) (hl : r.live = true) (hp : s.part ≠ .halted)
    (f : Read → State → State) : s.onRead tag kind f = (f r (s.removeRead tag)).finish := by
  simp [State.onRead, hr, hl, hp]

/-- A chain fault or board read fault while fault present is set is a second one (R28). -/
theorem raiseFault_of_faultPresent {s : State} (h : s.faultPresent = true) (kind : FaultKind)
    (address found : Nat) : s.raiseFault kind address found = s.secondFault := by
  simp [State.raiseFault, h]

/-- The held notes are lost in HALTED with NOTES_FULL set and no header write (R29, R176; log 19). -/
theorem loseHeld_of_halted {s : State} (h : s.part = .halted) :
    s.loseHeld = { s with heldNotes := [], notesFull := true } := by
  simp [State.loseHeld, h]

/-- A header read's bus error while fault present is set halts the part, and no write is placed (R28); after a
room read the held notes are lost and NOTES_FULL is set (R176). -/
theorem headerFault_of_faultPresent {s : State} (h : s.faultPresent = true) (h0 : s.handed = []) (r : Read) :
    s.headerFault r =
      if r.kind = .readIndex true then
        { s.secondFault with roomReadInFlight := false, heldNotes := [], notesFull := true }
      else s.secondFault := by
  unfold State.headerFault
  split
  · rw [raiseFault_of_faultPresent (s := { s with roomReadInFlight := false }) h,
      flush_of_nil (s := State.secondFault { s with roomReadInFlight := false }) h0, loseHeld_of_halted rfl]
    rfl
  · exact raiseFault_of_faultPresent h _ _ _

/-- A ready block outside HALTED with fault present answers a live header read's bus error with the second
fault, after which nothing is written or granted and the timers are stopped (R28, R29). -/
theorem exec_headerReadError_of_faultPresent {s : State} {tag : Nat} {r : Read} (h : s.ready)
    (hr : s.findRead tag ReadKind.isHeader = some r) (hl : r.live = true) (hp : s.part ≠ .halted)
    (hf : s.faultPresent = true) :
    exec (.headerReadError tag) s = .next ((s.removeRead tag).headerFault r).haltCleanup := by
  have ⟨_, _, h0⟩ := h
  have heq := headerFault_of_faultPresent (s := s.removeRead tag) hf h0 r
  have hpart : ((s.removeRead tag).headerFault r).part = .halted := by rw [heq]; split <;> rfl
  have hhanded : ((s.removeRead tag).headerFault r).handed = [] := by rw [heq]; split <;> exact h0
  rw [exec_of_ready h (.headerReadError tag) rfl nofun]
  change Host.Outcome.next (effHeaderReadError tag s) = _
  unfold effHeaderReadError
  rw [onRead_of_live hr hl hp, finish_of_halted hpart hhanded]

/-! ### A ticket alone in the buffer -/

/-- The ticket in execution is taken by the owner of its kind (R13). -/
theorem executing_of_alone {s : State} {tk : Ticket} (h : s.alone tk) : s.executing tk.kind = some tk := by
  obtain ⟨hpart, -, hexec, hbuf, -⟩ := h
  simp [State.executing, State.handedTicket, hpart, hexec, hbuf]

/-- With no ticket behind it and the reader waiting, nothing follows a retirement (R11, R15). -/
theorem afterRetire_of_waiting {s : State} (hstop : s.stopping = false) (hbuf : s.buffer = [])
    (hreader : s.reader = .waiting) (h0 : s.handed = []) : s.afterRetire = s := by
  have hcheck : s.checkHead = s := by simp [State.checkHead, hbuf]
  have heff : effHeadCheck s = s := by simp [effHeadCheck, hcheck, hreader, flush_of_nil h0]
  simp [State.afterRetire, hstop, heff, State.refusedByQueue]

/-- A ticket that was alone leaves, as it retires, the part RUNNING, the buffer empty, the reader waiting and
nothing handed (R14). -/
theorem retired_of_alone {s : State} {tk : Ticket} (h : s.alone tk) (r : Result) :
    (s.retired tk r).part = .running ∧ (s.retired tk r).stopping = false ∧ (s.retired tk r).buffer = [] ∧
      (s.retired tk r).reader = .waiting ∧ (s.retired tk r).handed = [] := by
  obtain ⟨hpart, hstop, -, hbuf, hreader⟩ := h
  have ho : (s.retired tk r).outline = (s.retire tk r).outline := flush_outline _
  refine ⟨(part_of_outline ho).trans hpart, (congrArg State.stopping ho).trans hstop, ?_,
    (congrArg State.reader ho).trans hreader, flush_handed _⟩
  exact (congrArg State.buffer ho).trans (by simp [State.outline, State.retire, hbuf])

/-- A ticket alone that retires with no request of its owner ends its event retired (R14, R15). -/
theorem retireWith_of_alone {s : State} {tk : Ticket} (h : s.alone tk) (r : Result) :
    s.retireWith tk r id = (s.retired tk r).finish := by
  obtain ⟨-, hstop, hbuf, hreader, h0⟩ := retired_of_alone h r
  exact congrArg State.finish (afterRetire_of_waiting hstop hbuf hreader h0)

/-- A ticket alone whose owner leaves it alone retires with the owner's state and result (R13, R15). -/
theorem carryOut_of_alone {s : State} {tk : Ticket} {owner : Ticket → State → State × Result}
    (h : s.alone tk) (h1 : (owner tk s).1.alone tk) :
    s.carryOut tk.kind owner = ((owner tk s).1.retired tk (owner tk s).2).finish := by
  simp only [State.carryOut, executing_of_alone h]
  exact retireWith_of_alone h1 _

/-- A command that carries out a ticket alone answers its retirement with the grants after it (R15, R168). -/
theorem thenGrants_of_carryOut {c : Instr} {s : State} {tk : Ticket}
    {owner : Ticket → State → State × Result} (hc : exec c s = .next (s.carryOut tk.kind owner))
    (h : s.alone tk) (h1 : (owner tk s).1.alone tk) :
    thenGrants c s ((owner tk s).1.retired tk (owner tk s).2) := by
  obtain ⟨hpart, -, -, -, h0⟩ := retired_of_alone h1 (owner tk s).2
  have hne : ((owner tk s).1.retired tk (owner tk s).2).part ≠ .halted := by simp [hpart]
  have := thenGrants_of_finish (hc.trans (congrArg _ (carryOut_of_alone h h1))) hne
  rwa [flush_of_nil h0] at this

/-! ### WINDOW -/

/-- The state after one window entry is written, and the result of the ticket that wrote it: whether the entry
was valid before, and how many are valid now (R19). -/
def State.windowWritten (s : State) (i : Fin 16) (w : Window) : State × Result :=
  let ws := putAt s.windows i w
  ({ s with windows := ws },
   ⟨.ok, 0, if (getAt s.windows i).valid then 1 else 0, (ws.toList.filter Window.valid).length⟩)

/-- A WINDOW ticket writes the entry that its body gives (R19). -/
theorem windowOwner_of_some {tk : Ticket} {s : State} {i : Fin 16} {w : Window}
    (hi : (WindowBody.parse tk.body).entry = i.val)
    (hw : (WindowBody.parse tk.body).entryAfter (getAt s.windows i) = some w) :
    windowOwner tk s = s.windowWritten i w := by
  obtain ⟨n, hn⟩ := i
  subst hi
  simp only [windowOwner, hn, dif_pos, hw]
  rfl

/-- A WINDOW ticket is refused that names an entry past the sixteenth, or whose body gives its entry none
(R19). -/
theorem windowOwner_of_none {tk : Ticket} {s : State}
    (h : 15 < (WindowBody.parse tk.body).entry ∨
      ∀ i : Fin 16, (WindowBody.parse tk.body).entry = i.val →
        (WindowBody.parse tk.body).entryAfter (getAt s.windows i) = none) :
    windowOwner tk s = (s, .refused .badField) := by
  by_cases hn : (WindowBody.parse tk.body).entry < 16
  · have hw := h.resolve_left (by omega) ⟨_, hn⟩ rfl
    simp only [windowOwner, hn, dif_pos, hw]
  · simp only [windowOwner, hn, dif_neg, not_false_eq_true]

/-- A WINDOW ticket writes one entry or leaves the state as it is (R19). -/
theorem windowOwner_cases (tk : Ticket) (s : State) :
    (∃ i w, windowOwner tk s = s.windowWritten i w) ∨ windowOwner tk s = (s, .refused .badField) := by
  by_cases hn : (WindowBody.parse tk.body).entry < 16
  · cases hw : (WindowBody.parse tk.body).entryAfter (getAt s.windows ⟨_, hn⟩) with
    | some w => exact .inl ⟨_, w, windowOwner_of_some rfl hw⟩
    | none => exact .inr (windowOwner_of_none (.inr fun i hi => (Fin.ext hi : ⟨_, hn⟩ = i) ▸ hw))
  · exact .inr (windowOwner_of_none (.inl (by omega)))

/-- A WINDOW ticket's owner does not touch the ticket reader. -/
theorem windowOwner_alone {tk : Ticket} {s : State} (h : s.alone tk) : (windowOwner tk s).1.alone tk := by
  obtain ⟨i, w, heq⟩ | heq := windowOwner_cases tk s <;> (rw [heq]; exact h)

/-- A WINDOW ticket alone retires with the state and the result of its owner (R13, R15, R19). -/
theorem thenGrants_window {tk : Ticket} {s : State} {x : State × Result} (h : s.ready) (ha : s.alone tk)
    (hk : tk.kind = kindWindow) (hx : windowOwner tk s = x) : thenGrants .window s (x.1.retired tk x.2) := by
  subst hx
  refine thenGrants_of_carryOut ?_ ha (windowOwner_alone ha)
  rw [exec_of_ready h .window rfl nofun, hk]
  rfl

/-- Kinds 1 and 2 of a WINDOW ticket, and no others, name a kind of window (Table 11-5). -/
theorem windowKindOf_eq_some {code : Nat} {k : WindowKind} :
    windowKindOf code = some k ↔ code = 1 ∧ k = .ticket ∨ code = 2 ∧ k = .data := by
  unfold windowKindOf
  split
  · simp_all [eq_comm]
  · split <;> simp_all [eq_comm]

/-- The ranges of R19 for the fields of a SET. -/
def WindowBody.inRange (b : WindowBody) : Prop :=
  b.base % 4096 = 0 ∧ 1 ≤ b.granules ∧ b.granules ≤ 65536 ∧ b.base + b.granules * 4096 ≤ 2 ^ 64

/-- A field of a SET that misses its range (R19). -/
theorem WindowBody.not_inRange {b : WindowBody}
    (h : b.base % 4096 ≠ 0 ∨ b.granules = 0 ∨ 65536 < b.granules ∨ 2 ^ 64 < b.base + b.granules * 4096) :
    ¬ b.inRange := by
  rintro ⟨hbase, hlow, hhigh, htop⟩
  omega

/-- SET with a kind and fields in range gives a valid entry of these fields (R19). -/
theorem setEntry_of_inRange {b : WindowBody} {k : WindowKind} (hk : windowKindOf b.kind = some k)
    (h : b.inRange) :
    b.setEntry = some { valid := true, kind := k, base := b.base, granules := b.granules } := by
  simp only [WindowBody.setEntry, hk]
  exact if_pos h

/-- SET with no such kind or with a field out of range gives none (R19). -/
theorem setEntry_eq_none {b : WindowBody} (h : (b.kind ≠ 1 ∧ b.kind ≠ 2) ∨ ¬ b.inRange) :
    b.setEntry = none := by
  unfold WindowBody.setEntry
  split
  · rfl
  next k hk =>
    have hcode := windowKindOf_eq_some.mp hk
    have hkind : ¬ (b.kind ≠ 1 ∧ b.kind ≠ 2) := by omega
    exact if_neg (h.resolve_left hkind)

/-- CLEAR marks the entry invalid and keeps its other fields (R19; log 22). -/
theorem entryAfter_of_clear {b : WindowBody} (old : Window) (h : b.action = 2) :
    b.entryAfter old = some { old with valid := false } := by
  simp [WindowBody.entryAfter, actionSet, actionClear, h]

/-- An action that is neither SET nor CLEAR, or a SET that gives no entry, writes none (R19). -/
theorem entryAfter_eq_none {b : WindowBody} (old : Window)
    (h : (b.action ≠ 1 ∧ b.action ≠ 2) ∨
      (b.action = 1 ∧ ((b.kind ≠ 1 ∧ b.kind ≠ 2) ∨ ¬ b.inRange))) : b.entryAfter old = none := by
  obtain ⟨h1, h2⟩ | ⟨h1, hbad⟩ := h
  · simp [WindowBody.entryAfter, actionSet, actionClear, h1, h2]
  · simp [WindowBody.entryAfter, actionSet, h1, setEntry_eq_none hbad]

end Sys2Proof.Machine

open Sys2Proof.Machine

/-- Settles O17: after the second fault the event has nothing left to write or to grant. -/
theorem secondFaultHalts : Obligations.SecondFaultHalts := by
  intro tag r s hready hr hl hp hf
  refine ⟨_, exec_headerReadError_of_faultPresent hready hr hl hp hf, ?_⟩
  obtain ⟨-, -, h0⟩ := hready
  rw [headerFault_of_faultPresent (s := s.removeRead tag) hf h0]
  split
  · exact ⟨rfl, hf, rfl, rfl, rfl, rfl, rfl, rfl, rfl, fun _ => ⟨rfl, rfl⟩⟩
  next hk => exact ⟨rfl, hf, rfl, rfl, rfl, rfl, rfl, rfl, rfl, fun h => absurd h hk⟩

/-- Settles O19, by the three outcomes of a WINDOW ticket's owner. -/
theorem windowTicket : Obligations.WindowTicket := by
  intro tk s hready halone hkind
  refine ⟨fun hn k haction hk hbase hlow hhigh htop => ?set, fun hn haction => ?clear, fun hbad => ?refused⟩
  case set =>
    refine thenGrants_window hready halone hkind (windowOwner_of_some (i := ⟨_, hn⟩) rfl ?_)
    exact (if_pos haction).trans
      (setEntry_of_inRange (windowKindOf_eq_some.mpr hk) ⟨hbase, hlow, hhigh, htop⟩)
  case clear =>
    refine ⟨{ getAt s.windows ⟨_, hn⟩ with valid := false }, rfl,
      thenGrants_window hready halone hkind (windowOwner_of_some (i := ⟨_, hn⟩) rfl ?_)⟩
    exact entryAfter_of_clear _ haction
  case refused =>
    refine thenGrants_window (x := (s, .refused .badField)) hready halone hkind (windowOwner_of_none ?_)
    obtain haction | hentry | ⟨haction, hfields⟩ := hbad
    · exact .inr fun _ _ => entryAfter_eq_none _ (.inl haction)
    · exact .inl hentry
    · refine .inr fun _ _ => entryAfter_eq_none _ (.inr ⟨haction, hfields.imp_right ?_⟩)
      exact WindowBody.not_inRange (b := WindowBody.parse tk.body)
end

section
/-! What RETRY and PURGE make of the entries they name (R81, R82): how a ticket retires whose owner changed
the tables alone (R14), what a replan leaves of a planner, and what a series of writes or frees makes of the
delivery table and of the orders. -/

open Sys2Proof

namespace Sys2Proof.Machine

/-! ### A ticket whose owner changed the tables alone -/

/-- States of equal outline have the same site records. -/
theorem site_of_outline {s t : State} (h : t.outline = s.outline) (i : Fin 16) : t.site i = s.site i :=
  (congrArg (State.site · i) h :)

/-- States of equal outline have the same base. -/
theorem base_of_outline {s t : State} (h : t.outline = s.outline) : t.base = s.base :=
  (congrArg State.base h :)

/-- The ticket alone in a buffer is alone in every state of equal outline. -/
theorem alone_of_outline {s t : State} {tk : Ticket} (h : t.outline = s.outline) (ha : s.alone tk) :
    t.alone tk := by
  have hlift : t.outline.alone tk := h ▸ ha
  exact hlift

/-- What a retirement leaves of the outline does not rest on the result it reports (R14). -/
theorem retired_outline_of_outline {s t : State} (h : t.outline = s.outline) (tk : Ticket) (r r' : Result) :
    (t.retired tk r).outline = (s.retired tk r').outline := by
  have hretire (u : State) (q : Result) : (u.retired tk q).outline =
      { u.outline with buffer := u.outline.buffer.tail, execution := none,
                       lastRetired := some
                         { address := tk.address, sequence := tk.sequence, link := tk.link } } :=
    flush_outline _
  rw [hretire, hretire, h]

/-- Hand-overs with no mirror rewrite all keep their place (R180). -/
theorem keepLast_of_noMirror {ws : List Handing} (hw : ∀ k, Handing.mirror k ∉ ws) : keepLast ws = ws := by
  induction ws with
  | nil => rfl
  | cons w ws ih =>
    have hrest := ih fun k hk => hw k (List.mem_cons_of_mem _ hk)
    cases w with
    | mirror k => exact absurd List.mem_cons_self (hw k)
    | note n => exact congrArg (Handing.note n :: ·) hrest
    | write o d => exact congrArg (Handing.write o d :: ·) hrest

/-- Hand-overs behind which no mirror rewrite is handed keep their places apart from those (R180). -/
theorem keepLast_append {ws : List Handing} (hw : ∀ k, Handing.mirror k ∉ ws) (hs : List Handing) :
    keepLast (hs ++ ws) = keepLast hs ++ ws := by
  induction hs with
  | nil => exact keepLast_of_noMirror hw
  | cons x hs ih =>
    cases x with
    | mirror k =>
      have hmem : Handing.mirror k ∈ hs ++ ws ↔ Handing.mirror k ∈ hs := by simp [hw k]
      simp only [List.cons_append, keepLast, hmem, ih]
      split <;> rfl
    | note n => exact congrArg (Handing.note n :: ·) ih
    | write o d => exact congrArg (Handing.write o d :: ·) ih

/-- Writes placed one after the other are placed together. -/
@[simp] theorem place_place (s : State) (a b : List PostedWrite) : (s.place a).place b = s.place (a ++ b) := by
  simp [State.place]

/-- A board write takes its address from the base alone (R1, R20). -/
theorem boardWrite_of_base {s t : State} (h : t.base = s.base) (offset : Nat) (data : List Byte) :
    t.boardWrite offset data = s.boardWrite offset data := by
  simp [State.boardWrite, h]

/-- A hand-over of board writes places them, in order (R180). -/
theorem foldl_perform_writes (s : State) (ws : List (Nat × List Byte)) :
    (ws.map fun w => Handing.write w.1 w.2).foldl State.perform s =
      s.place (ws.map fun w => s.boardWrite w.1 w.2) := by
  induction ws generalizing s with
  | nil => simp [State.place]
  | cons w ws ih =>
    have hfirst : s.perform (.write w.1 w.2) = s.place [s.boardWrite w.1 w.2] := rfl
    have hbase : (s.place [s.boardWrite w.1 w.2]).base = s.base := rfl
    simp only [List.map_cons, List.foldl_cons, hfirst, ih, place_place, boardWrite_of_base hbase,
      List.singleton_append]

/-- The offsets and bytes of the writes of Figure 1-2 (R14). -/
def State.retirementFields (s : State) (tk : Ticket) (r : Result) : List (Nat × List Byte) :=
  (if s.inTicketArea tk.address then
    [(tk.address - s.base + 0x0E, resultBytes r), (tk.address - s.base + 0x0D, [0xD0])]
   else []) ++
  [(0x400 + 16 * (tk.sequence % 64), logBytes tk r), (0x010, le 4 tk.sequence)]

/-- What a retirement hands (R14). -/
theorem retireWrites_eq_map (s : State) (tk : Ticket) (r : Result) :
    s.retireWrites tk r = (s.retirementFields tk r).map fun w => .write w.1 w.2 := by
  unfold State.retireWrites State.retirementFields
  split <;> rfl

/-- What a retirement places (R14). -/
theorem retirementWrites_eq_map (s : State) (tk : Ticket) (r : Result) :
    s.retirementWrites tk r = (s.retirementFields tk r).map fun w => s.boardWrite w.1 w.2 := by
  unfold State.retirementWrites State.retirementFields
  split <;> rfl

/-- The writes of a retirement rest on the base alone. -/
theorem retirementFields_of_base {s t : State} (h : t.base = s.base) (tk : Ticket) (r : Result) :
    t.retirementFields tk r = s.retirementFields tk r := by
  have harea : t.inTicketArea tk.address = s.inTicketArea tk.address := by simp only [State.inTicketArea, h]
  unfold State.retirementFields
  rw [harea, h]

/-- A retirement hands board writes only (R14). -/
theorem mirror_notMem_retireWrites (s : State) (tk : Ticket) (r : Result) (k : MirrorKey) :
    Handing.mirror k ∉ s.retireWrites tk r := by
  simp [retireWrites_eq_map]

/-- What a retirement hands becomes the writes of Figure 1-2, one after the other (R14). -/
theorem foldl_perform_retireWrites {s t u : State} (ht : t.base = s.base) (hu : u.base = s.base) (tk : Ticket)
    (r : Result) : (t.retireWrites tk r).foldl State.perform u = u.place (s.retirementWrites tk r) := by
  simp only [retireWrites_eq_map, retirementWrites_eq_map, foldl_perform_writes, retirementFields_of_base ht,
    boardWrite_of_base hu]

/-- A retirement ends its event with its own writes, after whatever the event handed before (R14, R180). -/
theorem retired_eq_place {s t : State} (h : t.outline = s.outline) (tk : Ticket) (r : Result) :
    ∃ u, Adds t u ∧ t.retired tk r = u.place (s.retirementWrites tk r) := by
  have hadds := foldl_adds _ perform_adds (keepLast t.handed) { t.retire tk r with handed := [] }
  have hbase : ((keepLast t.handed).foldl State.perform { t.retire tk r with handed := [] }).base = s.base :=
    (base_of_outline (foldl_outline _ perform_outline _ _)).trans (base_of_outline h :)
  refine ⟨_, hadds, ?_⟩
  change (keepLast (t.handed ++ t.retireWrites tk r)).foldl State.perform _ = _
  rw [keepLast_append (mirror_notMem_retireWrites t tk r), List.foldl_append]
  exact foldl_perform_retireWrites (base_of_outline h) hbase tk r

/-- A ticket whose owner left the outline and the queue retires with its writes at the end of the queue
(R14). -/
theorem retires_of_outline {s t : State} (h : t.outline = s.outline) (hq : t.queue = s.queue) (tk : Ticket)
    (r : Result) : Retires s (t.retired tk r) tk r := by
  have hlast : (t.retired tk r).lastRetired = (t.retire tk r).lastRetired :=
    (congrArg State.lastRetired (flush_outline (t.retire tk r)) :)
  obtain ⟨u, ⟨ws, hws⟩, hu⟩ := retired_eq_place h tk r
  refine ⟨hlast, ws, [], ?_⟩
  rw [hu, List.append_nil, ← hq, hws]
  rfl

/-- A ticket alone whose owner leaves the outline retires with the owner's result (R13 to R15). -/
theorem thenGrants_of_owner {c : Instr} {s y : State} {tk : Ticket} {r : Result}
    {owner : Ticket → State → State × Result} (hc : exec c s = .next (s.carryOut tk.kind owner))
    (ha : s.alone tk) (hown : owner tk s = (y, r)) (ho : y.outline = s.outline) :
    thenGrants c s (y.retired tk r) := by
  have hy : (owner tk s).1.alone tk := by rw [hown]; exact alone_of_outline ho ha
  have hgrants := thenGrants_of_carryOut hc ha hy
  rwa [hown] at hgrants

/-! ### What a retirement leaves of the tables -/

@[simp] theorem retired_deliveries (s : State) (tk r) : (s.retired tk r).deliveries = s.deliveries :=
  flush_deliveries _
@[simp] theorem retired_targets (s : State) (tk r) : (s.retired tk r).targets = s.targets := flush_targets _
@[simp] theorem retired_planners (s : State) (tk r) : (s.retired tk r).planners = s.planners := flush_planners _
@[simp] theorem retired_engines (s : State) (tk r) : (s.retired tk r).engines = s.engines := flush_engines _
@[simp] theorem retired_lanes (s : State) (tk r) : (s.retired tk r).lanes = s.lanes := flush_lanes _
@[simp] theorem retired_slot (s : State) (tk r j) : (s.retired tk r).slot j = s.slot j :=
  congrArg (getAt · j) (retired_deliveries s tk r)
@[simp] theorem retired_planner (s : State) (tk r i) : (s.retired tk r).planner i = s.planner i :=
  congrArg (getAt · i) (retired_planners s tk r)
@[simp] theorem retired_engine (s : State) (tk r i) : (s.retired tk r).engine i = s.engine i :=
  congrArg (getAt · i) (retired_engines s tk r)

/-! ### What a replan leaves of a planner -/

/-- A replan changes of a planner what it restarts and reports, and sets its own site's timer (R91, R92). -/
theorem replanNow_planner (s : State) (i k : Fin 16) :
    (s.replanNow i).planner k =
      { s.planner k with
        lastPace := ((s.replanNow i).planner k).lastPace, minSlack := ((s.replanNow i).planner k).minSlack,
        timer := if i = k then some Config.replanPeriod else (s.planner k).timer,
        absent := ((s.replanNow i).planner k).absent } := by
  have hstore (l : List (Fin 4096 × Delivery)) (t : State) :
      (l.foldl State.storeEntry t).planner k = t.planner k :=
    foldl_leaves (State.planner · k) State.storeEntry (fun _ _ => rfl) l t
  unfold State.replanNow
  simp only [handAll_planner, setPlanner_planner, hstore]
  split
  next h => subst h; rfl
  · rfl

theorem replan_planner (s : State) (i k : Fin 16) :
    (s.replan i).planner k =
      { s.planner k with
        lastPace := ((s.replan i).planner k).lastPace, minSlack := ((s.replan i).planner k).minSlack,
        timer := if i = k ∧ (s.site i).enabled = true then some Config.replanPeriod else (s.planner k).timer,
        absent := ((s.replan i).planner k).absent } := by
  unfold State.replan
  split
  next h => simpa only [h, and_true] using replanNow_planner s i k
  next h => simp [h]

/-- A replan moves no entry (R92). -/
@[simp] theorem replanAll_order (l : List (Fin 16)) (s : State) (k : Fin 16) :
    ((s.replanAll l).planner k).order = (s.planner k).order :=
  foldl_leaves (fun t => (State.planner t k).order) State.replan (fun t i => by rw [replan_planner]) l s

/-- A replan timer at its period is there after replans (R91). -/
theorem replanAll_timer_of_timer {s : State} {k : Fin 16} (l : List (Fin 16))
    (h : (s.planner k).timer = some Config.replanPeriod) :
    ((s.replanAll l).planner k).timer = some Config.replanPeriod := by
  induction l generalizing s with
  | nil => exact h
  | cons i l ih =>
    refine ih ?_
    rw [replan_planner]
    split
    · rfl
    · exact h

/-- Every enabled site that replans has its replan timer at its period (R91). -/
theorem replanAll_timer {l : List (Fin 16)} {s : State} {k : Fin 16} (hk : k ∈ l)
    (he : (s.site k).enabled = true) : ((s.replanAll l).planner k).timer = some Config.replanPeriod := by
  induction l generalizing s with
  | nil => cases hk
  | cons i l ih =>
    have hsite : (s.replan i).site k = s.site k := site_of_outline (replan_outline s i) k
    obtain rfl | hmem := List.mem_cons.mp hk
    · refine replanAll_timer_of_timer l ?_
      rw [replan_planner]
      exact if_pos ⟨rfl, he⟩
    · exact ih hmem (hsite ▸ he)

/-! ### The paces: K and the drift counter -/

theorem pacesKept_trans {s t u : State} (h : s.pacesKept t) (h1 : t.pacesKept u) : s.pacesKept u := fun i =>
  ⟨(h1 i).1.trans (h i).1, (h1 i).2.trans (h i).2⟩

/-- A fold of steps that keep the paces keeps them. -/
theorem foldl_pacesKept {α : Type} (f : State → α → State) (h : ∀ s a, State.pacesKept s (f s a)) (l : List α)
    (s : State) : s.pacesKept (l.foldl f s) := by
  induction l generalizing s with
  | nil => exact fun _ => ⟨rfl, rfl⟩
  | cons a l ih => exact pacesKept_trans (h s a) (ih _)

theorem replanAll_pacesKept (s : State) (l : List (Fin 16)) : s.pacesKept (s.replanAll l) :=
  foldl_pacesKept State.replan (fun t i k => by rw [replan_planner]; exact ⟨rfl, rfl⟩) l s

theorem writeEntry_pacesKept (s : State) (i : Fin 4096) (d : Delivery) : s.pacesKept (s.writeEntry i d) :=
  fun k => by rw [writeEntry_planner]; exact ⟨rfl, rfl⟩

/-- Forgetting a handle may discard a measurement, and changes nothing else of a planner (R53, R104). -/
theorem forgetHandle_planner (s : State) (i : Fin 16) (h : Handle) (k : Fin 16) :
    (s.forgetHandle i h).planner k =
      { s.planner k with measurement := ((s.forgetHandle i h).planner k).measurement } := by
  have hdiscard (t : State) : (t.discardIfNoSegment i).planner k =
      { t.planner k with measurement := ((t.discardIfNoSegment i).planner k).measurement } := by
    unfold State.discardIfNoSegment State.discardMeasurement
    split
    · rfl
    · rw [setPlanner_planner]
      split
      next hik => subst hik; rfl
      · rfl
  unfold State.forgetHandle State.dropMessages
  simp only [setEngine_planner]
  split
  · rfl
  · exact hdiscard _

/-- Freeing an entry keeps the paces (R53). -/
theorem freeEntry_pacesKept (s : State) (i : Fin 4096) : s.pacesKept (s.freeEntry i) := fun k => by
  unfold State.freeEntry
  split
  · exact ⟨rfl, rfl⟩
  · rw [forgetHandle_planner, hand_planner, setPlanner_planner]
    split
    next h => subst h; exact ⟨rfl, rfl⟩
    · exact ⟨rfl, rfl⟩

/-! ### What else freeing an entry leaves -/

@[simp] theorem freeEntry_targets (s : State) (i) : (s.freeEntry i).targets = s.targets := by
  unfold State.freeEntry State.forgetHandle
  split
  · rfl
  · exact dropMessages_targets _ _ _
@[simp] theorem freeEntry_lanes (s : State) (i) : (s.freeEntry i).lanes = s.lanes := by
  unfold State.freeEntry State.forgetHandle
  split
  · rfl
  · exact dropMessages_lanes _ _ _

/-- A freed entry keeps its generation (R52). -/
theorem freeEntry_generation (s : State) (i j : Fin 4096) :
    ((s.freeEntry i).slot j).generation = (s.slot j).generation := by
  unfold State.freeEntry
  split
  · rfl
  · unfold State.slot
    rw [forgetHandle_deliveries]
    change ((State.setSlot s i _).slot j).generation = _
    rw [setSlot_slot]
    split
    next h => subst h; rfl
    · rfl

/-- Forgetting a handle at one engine leaves every other engine (R53). -/
theorem forgetHandle_engine {i k : Fin 16} (hik : i ≠ k) (s : State) (h : Handle) :
    (s.forgetHandle i h).engine k = s.engine k := by
  have hdiscard (t : State) : (t.discardIfNoSegment i).engine k = t.engine k :=
    congrArg (getAt · k) (discardIfNoSegment_engines t i)
  unfold State.forgetHandle State.dropMessages
  simp only [setEngine_engine, if_neg hik]
  split
  · rfl
  · rw [hdiscard, setEngine_engine, if_neg hik]

/-- Freeing an entry leaves the engine of every other site. -/
theorem freeEntry_engine {s : State} {i : Fin 4096} {k : Fin 16} (h : ∀ d, s.entry i = some d → d.site ≠ k) :
    (s.freeEntry i).engine k = s.engine k := by
  unfold State.freeEntry
  split
  · rfl
  next d hd => exact forgetHandle_engine (h d hd) _ _

/-! ### A series of entries, each written or freed -/

/-- What a step on one entry after another makes of the table, where the list gives each entry as `o` does. -/
theorem foldl_entry {g : State → Fin 4096 × Delivery → State} {new : Delivery → Option Delivery}
    (hg : ∀ s p j, (g s p).entry j = if p.1 = j then new p.2 else s.entry j)
    {o : Fin 4096 → Option Delivery} {l : List (Fin 4096 × Delivery)} (hl : ∀ p ∈ l, o p.1 = some p.2)
    (s : State) (j : Fin 4096) :
    (l.foldl g s).entry j = if j ∈ l.map Prod.fst then (o j).bind new else s.entry j := by
  induction l generalizing s with
  | nil => rfl
  | cons p l ih =>
    have hp : o p.1 = some p.2 := hl p List.mem_cons_self
    rw [List.foldl_cons, ih fun q hq => hl q (List.mem_cons_of_mem _ hq), hg]
    by_cases hj : p.1 = j
    · subst hj; simp [hp]
    · have hmem : j ∈ (p :: l).map Prod.fst ↔ j ∈ l.map Prod.fst := by
        rw [List.map_cons, List.mem_cons, or_iff_right (Ne.symm hj)]
      simp only [hmem, if_neg hj]

/-- The entries in use that satisfy `c` each become what `new` gives, and the rest stay, when a step that
does so to one is taken on each. -/
theorem entriesBecome_foldl_inUse {g : State → Fin 4096 × Delivery → State} {new : Delivery → Option Delivery}
    (hg : ∀ s p j, (g s p).entry j = if p.1 = j then new p.2 else s.entry j)
    (hgen : ∀ s p j, ((g s p).slot j).generation = (s.slot j).generation) (c : Delivery → Bool) (s : State) :
    s.entriesBecome ((s.inUse.filter fun p => c p.2).foldl g s) fun _ d => if c d then new d else some d := by
  intro j
  have hentry := foldl_entry hg (o := s.entry) (l := s.inUse.filter fun p => c p.2)
    (fun p hp => (mem_inUse s _ _).mp (List.mem_filter.mp hp).1) s j
  refine ⟨foldl_leaves (fun t => (State.slot t j).generation) g (fun t p => hgen t p j) _ s, ?_⟩
  rw [hentry]
  cases hd : s.entry j with
  | none => simp
  | some d =>
    have hmem : j ∈ (s.inUse.filter fun p => c p.2).map Prod.fst ↔ c d = true := by simp [mem_inUse, hd]
    simp only [hmem, Option.bind_some]
    by_cases hc : c d = true
    · simp only [if_pos hc]
      cases new d with
      | none => rfl
      | some e => exact ⟨e, rfl, replannedAs_refl e⟩
    · simp only [if_neg hc]
      exact ⟨d, rfl, replannedAs_refl d⟩

/-- What a series of steps makes of the entries, replans and the retirement of a ticket leave but for what a
replan judges. -/
theorem entriesBecome_retired {s t : State} {f : Fin 4096 → Delivery → Option Delivery}
    (h : s.entriesBecome t f) (l : List (Fin 16)) (tk : Ticket) (r : Result) :
    s.entriesBecome ((t.replanAll l).retired tk r) f := fun j =>
  slotBecomes_trans (slotBecomes_trans (h j) (replanAll_slotBecomes l t j))
    (slotBecomes_of_slot (retired_slot _ tk r j))

/-- Replans and the retirement of a ticket keep the paces. -/
theorem pacesKept_retired {s t : State} (h : s.pacesKept t) (l : List (Fin 16)) (tk : Ticket) (r : Result) :
    s.pacesKept ((t.replanAll l).retired tk r) := fun i => by
  rw [retired_planner]
  exact pacesKept_trans h (replanAll_pacesKept t l) i

/-- An entry that becomes as `e`, which a replan could make of `d`, becomes as `d`. -/
theorem slotBecomes_of_replannedAs {s x : State} {j : Fin 4096} {d e : Delivery} (h : d.replannedAs e)
    (hb : s.slotBecomes x j (some e)) : s.slotBecomes x j (some d) := by
  obtain ⟨hgen, y, hy, he⟩ := hb
  exact ⟨hgen, y, hy, replannedAs_trans h he⟩

/-! ### Orders -/

@[simp] theorem settled_site (d : Delivery) : d.settled.site = d.site := by
  unfold Delivery.settled; split <;> rfl
@[simp] theorem settled_state (d : Delivery) : d.settled.state = d.state := by
  unfold Delivery.settled; split <;> rfl

/-- An entry put in its place joins the order, and takes none out (R87). -/
theorem mem_insertOrder {look : Fin 4096 → Option Delivery} {i j : Fin 4096} {d : Delivery}
    {l : List (Fin 4096)} : j ∈ insertOrder look i d l ↔ j = i ∨ j ∈ l := by
  induction l with
  | nil => simp [insertOrder]
  | cons k l ih =>
    unfold insertOrder
    split
    · simp [ih, or_left_comm]
    · split
      · simp
      · simp [ih, or_left_comm]

/-- A written entry whose state belongs to the order stands in it, with those that stood there (R86). -/
theorem mem_reorder {look : Fin 4096 → Option Delivery} {i j : Fin 4096} {d : Delivery}
    {l : List (Fin 4096)} (hd : d.state.inOrder = true) : j ∈ reorder look i d l ↔ j = i ∨ j ∈ l := by
  rw [reorder, if_pos hd, mem_insertOrder]
  by_cases hj : j = i
  · simp [hj]
  · simp [hj, List.mem_erase_of_ne hj]

/-- An entry that changes is put in its place in its site's order, and every other order stays (R86). -/
theorem writeEntry_order (s : State) (i : Fin 4096) (d : Delivery) (k : Fin 16) :
    ((s.writeEntry i d).planner k).order =
      if s.entry i ≠ some d.settled ∧ d.site = k then reorder s.entry i d.settled (s.planner k).order
      else (s.planner k).order := by
  unfold State.writeEntry
  by_cases hsame : s.entry i = some d.settled
  · simp [hsame]
  · simp only [hsame, if_false, hand_planner, setPlanner_planner, settled_site, ne_eq, not_false_eq_true,
      true_and]
    split
    next hk => subst hk; rfl
    · rfl

/-- Writing an entry whose state belongs to the order takes none out of an order (R86). -/
theorem mem_order_writeEntry {s : State} {i j : Fin 4096} {d : Delivery} {k : Fin 16}
    (hd : d.state.inOrder = true) (hj : j ∈ (s.planner k).order) :
    j ∈ ((s.writeEntry i d).planner k).order := by
  rw [writeEntry_order]
  split
  · exact (mem_reorder (by simpa using hd)).mpr (.inr hj)
  · exact hj

/-- An entry that changes to a state of the order stands in its site's order (R86). -/
theorem mem_order_of_changed {s : State} {i : Fin 4096} {d : Delivery} (hd : d.state.inOrder = true)
    (h : s.entry i ≠ some d.settled) : i ∈ ((s.writeEntry i d).planner d.site).order := by
  rw [writeEntry_order, if_pos ⟨h, rfl⟩]
  exact (mem_reorder (by simpa using hd)).mpr (.inl rfl)

/-- The sites concerned are those of the entries (R90). -/
theorem mem_sitesOf {l : List (Fin 4096 × Delivery)} {i : Fin 16} : i ∈ sitesOf l ↔ ∃ p ∈ l, p.2.site = i := by
  simp [sitesOf, allSites]

/-! ### RETRY -/

/-- A REFUSED or FAILED entry changes as it returns to WAITING (R81). -/
theorem ne_retried_settled {d : Delivery} (h : d.retriable = true) : d ≠ d.retried.settled := by
  intro heq
  have hwaiting : d.state = .waiting := (congrArg Delivery.state heq).trans (settled_state _)
  simp [Delivery.retriable, hwaiting] at h

/-- The entries of a list return to WAITING (R81). -/
def State.retryEntries (s : State) (l : List (Fin 4096 × Delivery)) : State :=
  l.foldl (fun st p => st.writeEntry p.1 p.2.retried) s

/-- What RETRY leaves in an order stays there. -/
theorem mem_order_retryEntries_of_mem {s : State} {j : Fin 4096} {k : Fin 16} (l : List (Fin 4096 × Delivery))
    (hj : j ∈ (s.planner k).order) : j ∈ ((s.retryEntries l).planner k).order := by
  induction l generalizing s with
  | nil => exact hj
  | cons p l ih => exact ih (mem_order_writeEntry rfl hj)

/-- Every entry that returns to WAITING is in its site's order again (R81, R86). -/
theorem mem_order_retryEntries {s : State} {l : List (Fin 4096 × Delivery)} {j : Fin 4096} {d : Delivery}
    (hone : ∀ e, (j, e) ∈ l → e = d) (hmem : (j, d) ∈ l) (hd : s.entry j = some d)
    (hr : d.retriable = true) : j ∈ ((s.retryEntries l).planner d.site).order := by
  induction l generalizing s with
  | nil => cases hmem
  | cons p l ih =>
    obtain ⟨i, e⟩ := p
    by_cases hij : i = j
    · subst hij
      obtain rfl := hone e List.mem_cons_self
      refine mem_order_retryEntries_of_mem l (mem_order_of_changed (d := e.retried) rfl ?_)
      rw [hd]
      exact fun h => ne_retried_settled hr (Option.some.inj h)
    · have htail : (j, d) ∈ l := (List.mem_cons.mp hmem).resolve_left fun h => hij (Prod.mk.inj h).1.symm
      refine ih (fun e he => hone e (List.mem_cons_of_mem _ he)) htail ?_
      rw [writeEntry_entry, if_neg hij, hd]

/-- RETRY's writes touch the delivery table and the orders alone. -/
@[simp] theorem retryEntries_outline (s : State) (l) : (s.retryEntries l).outline = s.outline :=
  foldl_outline _ (fun _ _ => writeEntry_outline _ _ _) l s
@[simp] theorem retryEntries_queue (s : State) (l) : (s.retryEntries l).queue = s.queue :=
  foldl_queue _ (fun _ _ => writeEntry_queue _ _ _) l s
@[simp] theorem retryEntries_engines (s : State) (l) : (s.retryEntries l).engines = s.engines :=
  foldl_leaves State.engines _ (fun _ _ => writeEntry_engines _ _ _) l s
@[simp] theorem retryEntries_targets (s : State) (l) : (s.retryEntries l).targets = s.targets :=
  foldl_leaves State.targets _ (fun _ _ => writeEntry_targets _ _ _) l s
@[simp] theorem retryEntries_lanes (s : State) (l) : (s.retryEntries l).lanes = s.lanes :=
  foldl_leaves State.lanes _ (fun _ _ => writeEntry_lanes _ _ _) l s
theorem retryEntries_pacesKept (s : State) (l) : s.pacesKept (s.retryEntries l) :=
  foldl_pacesKept _ (fun _ _ => writeEntry_pacesKept _ _ _) l s

/-- Each entry in use that RETRY names returns to WAITING, and the rest stay (R81). -/
theorem entriesBecome_retryEntries (c : Delivery → Bool) (s : State) :
    s.entriesBecome (s.retryEntries (s.inUse.filter fun p => c p.2)) fun _ d =>
      some (if c d then d.retried else d) := by
  have hsettled : s.entriesBecome (s.retryEntries (s.inUse.filter fun p => c p.2)) fun _ d =>
      if c d then some d.retried.settled else some d :=
    entriesBecome_foldl_inUse (new := fun d => some d.retried.settled)
      (g := fun st p => st.writeEntry p.1 p.2.retried) (fun s p j => writeEntry_entry s p.1 j p.2.retried)
      (fun s p j => writeEntry_generation s p.1 j _) c s
  intro j
  have hj := hsettled j
  cases hd : s.entry j with
  | none => simpa only [hd, Option.bind_none] using hj
  | some d =>
    simp only [hd, Option.bind_some] at hj ⊢
    split at hj
    next hc => rw [if_pos hc]; exact slotBecomes_of_replannedAs (settled_replannedAs _) hj
    next hc => rw [if_neg hc]; exact hj

/-- An accepted RETRY, where `again` tells the entries that return to WAITING (R77, R81). -/
theorem retryOwner_of_good {tk : Ticket} {s : State} {again : Delivery → Bool}
    (h : (PatternBody.parse tk.body).badField = false)
    (hagain : ∀ d, again d = ((PatternBody.parse tk.body).fits d && d.retriable)) :
    retryOwner tk s =
      ((s.retryEntries (s.inUse.filter fun p => again p.2)).replanAll
          (sitesOf (s.inUse.filter fun p => again p.2)),
        .ok (s.inUse.filter fun p => again p.2).length
          (s.inUse.filter fun p => (PatternBody.parse tk.body).fits p.2 && p.2.current).length) := by
  simp only [retryOwner, h, State.matchingCurrent, State.matching, List.filter_filter, hagain, Bool.and_comm]
  rfl

/-! ### PURGE -/

/-- The entries of a list are freed (R82). -/
def State.freeEntries (s : State) (l : List (Fin 4096 × Delivery)) : State :=
  l.foldl (fun st p => st.freeEntry p.1) s

@[simp] theorem freeEntries_outline (s : State) (l) : (s.freeEntries l).outline = s.outline :=
  foldl_outline _ (fun _ _ => freeEntry_outline _ _) l s
@[simp] theorem freeEntries_queue (s : State) (l) : (s.freeEntries l).queue = s.queue :=
  foldl_queue _ (fun _ _ => freeEntry_queue _ _) l s
@[simp] theorem freeEntries_targets (s : State) (l) : (s.freeEntries l).targets = s.targets :=
  foldl_leaves State.targets _ (fun _ _ => freeEntry_targets _ _) l s
@[simp] theorem freeEntries_lanes (s : State) (l) : (s.freeEntries l).lanes = s.lanes :=
  foldl_leaves State.lanes _ (fun _ _ => freeEntry_lanes _ _) l s
theorem freeEntries_pacesKept (s : State) (l) : s.pacesKept (s.freeEntries l) :=
  foldl_pacesKept _ (fun _ _ => freeEntry_pacesKept _ _) l s

/-- Each entry in use that PURGE names is freed, and the rest stay (R82). -/
theorem entriesBecome_freeEntries (c : Delivery → Bool) (s : State) :
    s.entriesBecome (s.freeEntries (s.inUse.filter fun p => c p.2)) fun _ d => if c d then none else some d :=
  entriesBecome_foldl_inUse (new := fun _ => none) (g := fun st p => st.freeEntry p.1)
    (fun s p j => freeEntry_entry s p.1 j) (fun s p j => freeEntry_generation s p.1 j) c s

/-- The engine of a site of which no entry is freed stays (R53). -/
theorem freeEntries_engine {s : State} {l : List (Fin 4096 × Delivery)} {k : Fin 16}
    (h : ∀ p ∈ l, ∀ d, s.entry p.1 = some d → d.site ≠ k) : (s.freeEntries l).engine k = s.engine k := by
  induction l generalizing s with
  | nil => rfl
  | cons p l ih =>
    have hfirst : (s.freeEntry p.1).engine k = s.engine k := freeEntry_engine (h p List.mem_cons_self)
    refine (ih fun q hq d hd => ?_).trans hfirst
    rw [freeEntry_entry] at hd
    split at hd
    · cases hd
    · exact h q (List.mem_cons_of_mem _ hq) d hd

/-- Of the members that satisfy `q`, those that do not satisfy `p` are the rest. -/
theorem length_filter_and_not {α : Type} (l : List α) (q p : α → Bool) :
    (l.filter fun a => q a && !p a).length = (l.filter q).length - (l.filter fun a => q a && p a).length := by
  have hsplit := List.length_eq_length_filter_add (l := l.filter q) p
  simp only [List.filter_filter, Bool.and_comm _ (q _)] at hsplit
  omega

/-- An accepted PURGE, where `gone` tells the entries that are freed (R82). -/
theorem purgeOwner_of_le {tk : Ticket} {s : State} {n : Nat} {gone : Delivery → Bool}
    (hn : field tk.body 0x00 1 = n) (h : n ≤ 31)
    (hgone : ∀ d, gone d = (decide (d.edition.val = n) && d.purgeable)) :
    purgeOwner tk s =
      ((s.freeEntries (s.inUse.filter fun p => gone p.2)).replanAll
          (sitesOf (s.inUse.filter fun p => gone p.2)),
        .ok (s.inUse.filter fun p => gone p.2).length
          (s.inUse.filter fun p => decide (p.2.edition.val = n) && !gone p.2).length) := by
  subst hn
  have hlt : field tk.body 0x00 1 < 32 := by omega
  simp only [purgeOwner, purgeBody, dif_pos hlt, Fin.ext_iff, List.filter_filter]
  simp only [hgone, length_filter_and_not, Bool.and_self_left, Bool.and_comm]
  rfl

/-- A PURGE of an edition past the last is refused (R82). -/
theorem purgeOwner_of_gt {tk : Ticket} {s : State} (h : 31 < field tk.body 0x00 1) :
    purgeOwner tk s = (s, .refused .badField) := by
  have hge : ¬ purgeBody tk.body < 32 := by simp only [purgeBody]; omega
  simp only [purgeOwner, dif_neg hge]

end Sys2Proof.Machine

open Sys2Proof.Machine

/-- Settles O28: the entries named are written once each, and what follows them, the replans and the
retirement, changes nothing of an entry but what a replan judges. -/
theorem retryTicket : Obligations.RetryTicket := by
  intro tk s hready halone hkind b again hgood
  have hagain : ∀ d, again d = (b.fits d && d.retriable) := fun d => by
    simp only [again, Delivery.retriable, Bool.decide_or]
  have hexec : exec .retry s = .next (s.carryOut tk.kind retryOwner) := by
    rw [exec_of_ready hready .retry rfl nofun, hkind]; rfl
  have houtline : ∀ l is, ((s.retryEntries l).replanAll is).outline = s.outline := fun l is => by simp
  have howner := retryOwner_of_good (s := s) hgood hagain
  refine ⟨_, thenGrants_of_owner hexec halone howner (houtline _ _),
    retired_outline_of_outline (houtline _ _) tk _ _, retires_of_outline (houtline _ _) (by simp) tk _,
    by simp, by simp, by simp, ?paces, ?entries, ?orders⟩
  case paces => exact pacesKept_retired (retryEntries_pacesKept s _) _ tk _
  case entries => exact entriesBecome_retired (entriesBecome_retryEntries again s) _ tk _
  case orders =>
    intro j d hd hdagain
    have hmem : (j, d) ∈ s.inUse.filter fun p => again p.2 :=
      List.mem_filter.mpr ⟨(mem_inUse s j d).mpr hd, hdagain⟩
    have hretriable : d.retriable = true := (Bool.and_eq_true_iff.mp (hagain d ▸ hdagain)).2
    simp only [retired_planner, replanAll_order]
    refine ⟨mem_order_retryEntries (fun e he => ?_) hmem hd hretriable, fun hen => ?_⟩
    · have he : s.entry j = some e := (mem_inUse s j e).mp (List.mem_filter.mp he).1
      exact Option.some.inj (he.symm.trans hd)
    · refine replanAll_timer (mem_sitesOf.mpr ⟨_, hmem, rfl⟩) ?_
      rwa [site_of_outline (retryEntries_outline s _)]

/-- Settles O29: the entries named are freed once each, and each free touches the engine of its own site
alone. -/
theorem purgeTicket : Obligations.PurgeTicket := by
  intro tk s hready halone hkind n gone
  have hgone : ∀ d, gone d = (decide (d.edition.val = n) && d.purgeable) := fun d => by
    simp only [gone, Delivery.purgeable, Bool.decide_or, Bool.or_assoc]
  have hexec : exec .purge s = .next (s.carryOut tk.kind purgeOwner) := by
    rw [exec_of_ready hready .purge rfl nofun, hkind]; rfl
  refine ⟨fun hn => thenGrants_of_owner hexec halone (purgeOwner_of_gt hn) rfl, fun hn => ?_⟩
  have houtline : ∀ l is, ((s.freeEntries l).replanAll is).outline = s.outline := fun l is => by simp
  have howner := purgeOwner_of_le (s := s) rfl hn hgone
  refine ⟨_, thenGrants_of_owner hexec halone howner (houtline _ _),
    retired_outline_of_outline (houtline _ _) tk _ _, retires_of_outline (houtline _ _) (by simp) tk _,
    by simp, by simp, ?paces, ?engines, ?entries⟩
  case paces => exact pacesKept_retired (freeEntries_pacesKept s _) _ tk _
  case engines =>
    intro i hi
    have hfreed : (s.freeEntries (s.inUse.filter fun p => gone p.2)).engine i = s.engine i := by
      refine freeEntries_engine fun p hp d hd => ?_
      obtain ⟨huse, hgo⟩ := List.mem_filter.mp hp
      obtain rfl := Option.some.inj (hd.symm.trans ((mem_inUse s _ _).mp huse))
      exact hi _ _ hd hgo
    rw [retired_engine, ← hfreed]
    exact congrArg (getAt · i) (replanAll_engines _ _)
  case entries => exact entriesBecome_retired (entriesBecome_freeEntries gone s) _ tk _
end

section
/-! The CLOCK ticket (R84): what the writer leaves of the chain poll timer, what a replan judges LATE (R99),
and what the restart of the measurements and a replan of every enabled site leave of the planners. -/

open Sys2Proof

namespace Sys2Proof.Machine

/-! ### The chain poll timer -/

@[simp] theorem writerWrite_pollTimer (s : State) (o d) : (s.writerWrite o d).pollTimer = s.pollTimer := by
  unfold State.writerWrite; split <;> rfl
@[simp] theorem askRoom_pollTimer (s : State) : s.askRoom.pollTimer = s.pollTimer := by
  unfold State.askRoom; split <;> rfl
@[simp] theorem setNotesFull_pollTimer (s : State) : s.setNotesFull.pollTimer = s.pollTimer := by
  unfold State.setNotesFull; split <;> simp
@[simp] theorem raiseMsi_pollTimer (s : State) : s.raiseMsi.pollTimer = s.pollTimer := by
  unfold State.raiseMsi; split
  · rfl
  · split <;> rfl
@[simp] theorem writeNote_pollTimer (s : State) (n) : (s.writeNote n).pollTimer = s.pollTimer := by
  unfold State.writeNote; split <;> simp
@[simp] theorem takeNote_pollTimer (s : State) (n) : (s.takeNote n).pollTimer = s.pollTimer := by
  unfold State.takeNote; repeat' split
  all_goals simp
@[simp] theorem rewrite_pollTimer (s : State) (k) : (s.rewrite k).pollTimer = s.pollTimer := by
  unfold State.rewrite; split <;> rfl
@[simp] theorem takeRewrite_pollTimer (s : State) (k) : (s.takeRewrite k).pollTimer = s.pollTimer := by
  unfold State.takeRewrite; repeat' split
  all_goals simp
@[simp] theorem perform_pollTimer (s : State) (h) : (s.perform h).pollTimer = s.pollTimer := by
  unfold State.perform; split <;> simp
@[simp] theorem retired_pollTimer (s : State) (tk r) : (s.retired tk r).pollTimer = s.pollTimer :=
  foldl_perform State.pollTimer perform_pollTimer _ _
@[simp] theorem replanAll_pollTimer (s : State) (l) : (s.replanAll l).pollTimer = s.pollTimer :=
  foldl_leaves State.pollTimer State.replan
    (replan_leaves State.pollTimer (fun _ _ => rfl) (fun _ _ _ => rfl) fun _ _ => rfl) l s

/-! ### What a replan judges LATE (R99) -/

/-- The deadline has passed of a delivery whose state is judged (R99). -/
def Delivery.overdue (d : Delivery) (now : Nat) : Bool :=
  decide (d.deadline < now) && decide (d.state ≠ .delivered ∧ d.state ≠ .plated ∧ d.state ≠ .withdrawing)

/-- LATE is to be set on an overdue delivery that does not carry it (R99). -/
theorem becomesLate_eq (d : Delivery) (now : Nat) : d.becomesLate now = (!d.late && d.overdue now) :=
  Bool.and_assoc _ _ _

/-- A delivery whose state is judged is overdue when its deadline has passed. -/
theorem overdue_of_judged {d : Delivery}
    (h : d.state = .refused ∨ d.state = .failed ∨ d.state.inOrder = true) (now : Nat) :
    d.overdue now = decide (d.deadline < now) := by
  have hstate : d.state ≠ .delivered ∧ d.state ≠ .plated ∧ d.state ≠ .withdrawing := by
    cases hs : d.state <;> simp_all [DeliveryState.inOrder]
  simp [Delivery.overdue, hstate]

/-- A replan does not change what makes a delivery overdue. -/
theorem replannedAs_overdue {d y : Delivery} (h : d.replannedAs y) (now : Nat) :
    y.overdue now = d.overdue now := by
  rw [h.1]; rfl

/-- The entries that a replan judges: those of the order, and the site's REFUSED and FAILED ones (R99). -/
theorem mem_judged {s : State} {i : Fin 16} {j : Fin 4096} :
    j ∈ s.judged i ↔ j ∈ (s.planner i).order ∨
      ∃ d, s.entry j = some d ∧ d.site = i ∧ (d.state = .refused ∨ d.state = .failed) := by
  simp [State.judged, mem_inUse]

/-- An entry is judged by a site's replan as it was before another replan of the entry. -/
theorem mem_judged_of_replannedAs {s t : State} {i : Fin 16} {j : Fin 4096} {d y : Delivery}
    (ho : (t.planner i).order = (s.planner i).order) (hd : s.entry j = some d) (hy : t.entry j = some y)
    (h : d.replannedAs y) : j ∈ t.judged i ↔ j ∈ s.judged i := by
  have hsite : y.site = d.site := by rw [h.1]
  have hstate : y.state = d.state := by rw [h.1]
  simp [mem_judged, ho, hd, hy, hsite, hstate]

/-- The entries that become LATE, each with LATE set (R99). -/
theorem mem_newlyLate {s : State} {l : List (Fin 4096)} {j : Fin 4096} {y : Delivery} :
    (j, y) ∈ s.newlyLate l ↔
      j ∈ l ∧ ∃ d, s.entry j = some d ∧ d.becomesLate s.clock = true ∧ y = { d with late := true } := by
  simp only [State.newlyLate, List.mem_filterMap]
  constructor
  · rintro ⟨k, hk, hy⟩
    split at hy
    next d hd =>
      split at hy
      next hlate => cases hy; exact ⟨hk, d, hd, hlate, rfl⟩
      · cases hy
    · cases hy
  · rintro ⟨hj, d, hd, hlate, rfl⟩
    exact ⟨j, hj, by simp [hd, hlate]⟩

/-- Storing one delivery after another leaves in an entry one of those stored there, or what stood there when
none was. -/
theorem storeEntries_entry (ps : List (Fin 4096 × Delivery)) (s : State) (j : Fin 4096) :
    (∃ y, (j, y) ∈ ps ∧ (ps.foldl State.storeEntry s).entry j = some y) ∨
      ((∀ y, (j, y) ∉ ps) ∧ (ps.foldl State.storeEntry s).entry j = s.entry j) := by
  induction ps generalizing s with
  | nil => exact .inr ⟨fun _ => List.not_mem_nil, rfl⟩
  | cons p ps ih =>
    obtain ⟨i, e⟩ := p
    have hstore : (s.storeEntry (i, e)).entry j = if i = j then some e else s.entry j := setSlot_entry _ _ _ _
    obtain ⟨y, hmem, hy⟩ | ⟨hnone, hkept⟩ := ih (s.storeEntry (i, e))
    · exact .inl ⟨y, List.mem_cons_of_mem _ hmem, hy⟩
    · rw [hstore] at hkept
      split at hkept
      next hij => subst hij; exact .inl ⟨e, List.mem_cons_self, hkept⟩
      next hij =>
        refine .inr ⟨fun y hy => ?_, hkept⟩
        obtain heq | hmem := List.mem_cons.mp hy
        · exact hij (Prod.mk.inj heq).1.symm
        · exact hnone y hmem

/-- Storing a prediction keeps LATE (R92 step 2). -/
theorem storePrediction_entry {s : State} {j : Fin 4096} {d : Delivery} (hd : s.entry j = some d)
    (e m last : Nat) (l : List (Fin 4096)) :
    ∃ y, ((predictAlong s.entry e m last l).foldl State.storeEntry s).entry j = some y ∧
      d.replannedAs y ∧ y.late = d.late := by
  obtain ⟨y, hmem, hy⟩ | ⟨-, hkept⟩ := storeEntries_entry (predictAlong s.entry e m last l) s j
  · obtain ⟨-, d', hd', hrep, hlate⟩ := predictAlong_mem hmem
    obtain rfl := Option.some.inj (hd.symm.trans hd')
    exact ⟨y, hy, hrep, hlate⟩
  · exact ⟨d, hkept.trans hd, replannedAs_refl d, rfl⟩

/-- Storing the entries of a list that become LATE sets LATE on those overdue (R92 step 3). -/
theorem storeNewlyLate_entry {s : State} {j : Fin 4096} {d : Delivery} (hd : s.entry j = some d)
    (l : List (Fin 4096)) :
    ((s.newlyLate l).foldl State.storeEntry s).entry j =
      some { d with late := d.late || (decide (j ∈ l) && d.overdue s.clock) } := by
  obtain ⟨y, hmem, hy⟩ | ⟨hnone, hkept⟩ := storeEntries_entry (s.newlyLate l) s j
  · obtain ⟨hj, d', hd', hlate, rfl⟩ := mem_newlyLate.mp hmem
    obtain rfl := Option.some.inj (hd.symm.trans hd')
    obtain ⟨-, hover⟩ := Bool.and_eq_true_iff.mp (becomesLate_eq d _ ▸ hlate)
    simp [hy, hj, hover]
  · have hkeeps : (d.late || (decide (j ∈ l) && d.overdue s.clock)) = d.late := by
      by_cases hj : j ∈ l
      · have hnot := fun h => hnone _ (mem_newlyLate.mpr ⟨hj, d, hd, h, rfl⟩)
        rw [becomesLate_eq] at hnot
        cases hl : d.late <;> simp_all
      · simp [hj]
    rw [hkept, hd, hkeeps]

/-- The block with the prediction of a site's replan stored (R92 step 2). -/
def State.predictionStored (s : State) (i : Fin 16) : State :=
  (predictAlong s.entry (effectivePace (s.site i).pace (s.planner i).factor) (s.site i).margin s.clock
    (s.planner i).order).foldl State.storeEntry s

/-- Storing a prediction leaves the orders. -/
theorem predictionStored_order (s : State) (i k : Fin 16) :
    ((s.predictionStored i).planner k).order = (s.planner k).order :=
  foldl_leaves (fun t => (State.planner t k).order) State.storeEntry (fun _ _ => rfl) _ s

theorem predictionStored_clock (s : State) (i : Fin 16) : (s.predictionStored i).clock = s.clock :=
  foldl_leaves State.clock State.storeEntry (fun _ _ => rfl) _ s

/-- A replan leaves of the table what its stores of the prediction and of LATE leave (R92). -/
theorem replanNow_entry (s : State) (i : Fin 16) (j : Fin 4096) :
    (s.replanNow i).entry j =
      (((s.predictionStored i).newlyLate ((s.predictionStored i).judged i)).foldl State.storeEntry
        (s.predictionStored i)).entry j := by
  have hleaves (t : State) (p : Planner) (hs : List Handing) :
      ((t.setPlanner i p).handAll hs).entry j = t.entry j := rfl
  unfold State.replanNow
  exact hleaves _ _ _

/-- A replan sets LATE on the entries it judges that are overdue, and changes LATE of no other (R99). -/
theorem replanNow_late {s : State} {j : Fin 4096} {d : Delivery} (hd : s.entry j = some d) (i : Fin 16) :
    ∃ y, (s.replanNow i).entry j = some y ∧ d.replannedAs y ∧
      y.late = (d.late || (decide (j ∈ s.judged i) && d.overdue s.clock)) := by
  obtain ⟨y, hy, hrep, hlate⟩ : ∃ y, (s.predictionStored i).entry j = some y ∧ d.replannedAs y ∧
      y.late = d.late := storePrediction_entry hd _ _ _ _
  have hjudged := mem_judged_of_replannedAs (predictionStored_order s i i) hd hy hrep
  refine ⟨_, (replanNow_entry s i j).trans (storeNewlyLate_entry hy _), ?_, ?_⟩
  · exact replannedAs_trans hrep ⟨rfl, fun h => by simp [h]⟩
  · simp only [hjudged, hlate, predictionStored_clock, replannedAs_overdue hrep]

/-- A replan of a site sets LATE as it judges, if the site is enabled (R85, R99). -/
theorem replan_late {s : State} {j : Fin 4096} {d : Delivery} (hd : s.entry j = some d) (i : Fin 16) :
    ∃ y, (s.replan i).entry j = some y ∧ d.replannedAs y ∧
      y.late = (d.late || (decide ((s.site i).enabled = true ∧ j ∈ s.judged i) && d.overdue s.clock)) := by
  unfold State.replan
  split
  next h => simpa [h] using replanNow_late hd i
  next h => exact ⟨d, hd, replannedAs_refl d, by simp [h]⟩

/-- Replans of several sites set LATE on an overdue entry that an enabled one of them judges (R84, R99). -/
theorem replanAll_late {s : State} {j : Fin 4096} {d : Delivery} (hd : s.entry j = some d)
    (l : List (Fin 16)) :
    ∃ y, (s.replanAll l).entry j = some y ∧
      y.late = (d.late ||
        (decide (∃ i ∈ l, (s.site i).enabled = true ∧ j ∈ s.judged i) && d.overdue s.clock)) := by
  induction l generalizing s d with
  | nil => exact ⟨d, hd, by simp⟩
  | cons i l ih =>
    obtain ⟨y, hy, hrep, hlate⟩ := replan_late hd i
    obtain ⟨z, hz, hzlate⟩ := ih hy
    have hout := replan_outline s i
    have hclock : (s.replan i).clock = s.clock := (congrArg State.clock hout :)
    have hjudged (k : Fin 16) : j ∈ (s.replan i).judged k ↔ j ∈ s.judged k :=
      mem_judged_of_replannedAs (by rw [replan_planner]) hd hy hrep
    refine ⟨z, hz, ?_⟩
    simp only [hzlate, hlate, hclock, replannedAs_overdue hrep, site_of_outline hout, hjudged,
      List.exists_mem_cons_iff, Bool.decide_or, Bool.and_or_distrib_right, Bool.or_assoc]

/-! ### What replans leave of the planners -/

@[simp] theorem replanAll_measurement (l : List (Fin 16)) (s : State) (k : Fin 16) :
    ((s.replanAll l).planner k).measurement = (s.planner k).measurement :=
  foldl_leaves (fun t => (State.planner t k).measurement) State.replan (fun t i => by rw [replan_planner]) l s

/-- The replan timer of a site that is not enabled keeps its time through replans (R85). -/
theorem replanAll_timer_of_disabled {s : State} {k : Fin 16} (l : List (Fin 16))
    (h : (s.site k).enabled = false) : ((s.replanAll l).planner k).timer = (s.planner k).timer := by
  induction l generalizing s with
  | nil => rfl
  | cons i l ih =>
    have hsite : (s.replan i).site k = s.site k := site_of_outline (replan_outline s i) k
    refine (ih (hsite ▸ h)).trans ?_
    rw [replan_planner]
    refine if_neg fun ⟨hik, hen⟩ => ?_
    subst hik
    simp [h] at hen

/-- The enabled sites are the sites that are enabled. -/
theorem mem_enabledSites {s : State} {i : Fin 16} : i ∈ s.enabledSites ↔ (s.site i).enabled = true := by
  simp [State.enabledSites, allSites]

/-! ### CLOCK -/

/-- The clock set to a new value with the measurements in progress restarted at it, before the replans (R84). -/
def State.clockSet (s : State) (now : Nat) : State := { s with clock := now }.restartMeasurements

@[simp] theorem clockSet_lanes (s : State) (now : Nat) : (s.clockSet now).lanes = s.lanes := rfl
@[simp] theorem clockSet_engines (s : State) (now : Nat) : (s.clockSet now).engines = s.engines := rfl
@[simp] theorem clockSet_targets (s : State) (now : Nat) : (s.clockSet now).targets = s.targets := rfl
@[simp] theorem clockSet_pollTimer (s : State) (now : Nat) : (s.clockSet now).pollTimer = s.pollTimer := rfl
@[simp] theorem clockSet_clock (s : State) (now : Nat) : (s.clockSet now).clock = now := rfl
@[simp] theorem clockSet_entry (s : State) (now : Nat) (j : Fin 4096) :
    (s.clockSet now).entry j = s.entry j := rfl

/-- Setting the clock restarts every measurement and changes nothing else of a planner (R84). -/
@[simp] theorem clockSet_planner (s : State) (now : Nat) (i : Fin 16) :
    (s.clockSet now).planner i =
      { s.planner i with
        measurement := (s.planner i).measurement.map fun _ => { start := now, bytes := 0 } } :=
  getAt_map _ _ _

/-- A CLOCK ticket sets the clock and replans every enabled site, and reports the clock as it stood (R84). -/
theorem clockOwner_eq {tk : Ticket} {now : Nat} (h : field tk.body 0x00 4 = now) (s : State) :
    clockOwner tk s =
      ((s.clockSet now).replanAll s.enabledSites, .ok s.clock s.enabledSites.length) := by
  subst h; rfl

/-- After a CLOCK ticket every replan timer of an enabled site is at its period, and every other keeps its
time (R84, R91). -/
theorem clockSet_replanAll_timer (s : State) (now : Nat) (i : Fin 16) :
    (((s.clockSet now).replanAll s.enabledSites).planner i).timer =
      if (s.site i).enabled then some Config.replanPeriod else (s.planner i).timer := by
  split
  next hen => exact replanAll_timer (mem_enabledSites.mpr hen) hen
  next hen =>
    rw [replanAll_timer_of_disabled (s := s.clockSet now) _ (Bool.eq_false_iff.mpr hen), clockSet_planner]

/-- After a CLOCK ticket the entries that its replans judge are LATE if they were or if their deadline is below
the new clock (R84, R99). -/
theorem clockSet_replanAll_late {s : State} {j : Fin 4096} {d : Delivery} (now : Nat) (hd : s.entry j = some d)
    (hen : (s.site d.site).enabled = true)
    (hstate : d.state = .refused ∨ d.state = .failed ∨
      d.state.inOrder = true ∧ j ∈ (s.planner d.site).order) :
    ∃ y, ((s.clockSet now).replanAll s.enabledSites).entry j = some y ∧
      y.late = (d.late || decide (d.deadline < now)) := by
  have hjudged : j ∈ (s.clockSet now).judged d.site := by
    rw [mem_judged, clockSet_planner, clockSet_entry]
    obtain hrefused | hfailed | ⟨-, horder⟩ := hstate
    · exact .inr ⟨d, hd, rfl, .inl hrefused⟩
    · exact .inr ⟨d, hd, rfl, .inr hfailed⟩
    · exact .inl horder
  have hsome : ∃ i ∈ s.enabledSites, ((s.clockSet now).site i).enabled = true ∧
      j ∈ (s.clockSet now).judged i := ⟨d.site, mem_enabledSites.mpr hen, hen, hjudged⟩
  have hover : d.overdue now = decide (d.deadline < now) :=
    overdue_of_judged (hstate.imp_right (.imp_right And.left)) now
  obtain ⟨y, hy, hlate⟩ := replanAll_late (s := s.clockSet now) hd s.enabledSites
  exact ⟨y, hy, by rw [hlate, decide_eq_true hsome, Bool.true_and, clockSet_clock, hover]⟩

end Sys2Proof.Machine

open Sys2Proof.Machine

/-- Settles O24: the replans of the enabled sites find the clock set and the measurements restarted, and each
judges LATE its site's order with its REFUSED and FAILED entries. -/
theorem clockTicket : Obligations.ClockTicket := by
  intro tk s hready halone hkind now
  have howner := clockOwner_eq (tk := tk) (now := now) rfl s
  have hexec : exec .clock s = .next (s.carryOut tk.kind clockOwner) := by
    rw [exec_of_ready hready .clock rfl nofun, hkind]; rfl
  have houtline : ((s.clockSet now).replanAll s.enabledSites).outline = { s with clock := now }.outline :=
    replanAll_outline _ _
  have hqueue : ((s.clockSet now).replanAll s.enabledSites).queue = s.queue := replanAll_queue _ _
  have hgrants := thenGrants_of_carryOut hexec halone
    (howner ▸ alone_of_outline (s := { s with clock := now }) houtline halone)
  simp only [howner] at hgrants
  refine ⟨_, hgrants, retired_outline_of_outline houtline tk _ _,
    retires_of_outline (s := { s with clock := now }) houtline hqueue tk _,
    by simp, by simp, by simp, by simp, ?planners, ?entries, ?late⟩
  case planners =>
    intro i
    obtain ⟨hfactor, hdrift⟩ := replanAll_pacesKept (s.clockSet now) s.enabledSites i
    rw [clockSet_planner] at hfactor hdrift
    rw [retired_planner, replanAll_measurement, replanAll_order, clockSet_planner]
    exact ⟨rfl, rfl, hfactor, hdrift, clockSet_replanAll_timer s now i⟩
  case entries =>
    have hset : s.entriesBecome (s.clockSet now) fun _ d => some d := fun j => by
      rw [Option.bind_fun_some]; exact slotBecomes_of_slot rfl
    exact entriesBecome_retired hset _ tk _
  case late =>
    intro j d hd hen hstate
    obtain ⟨y, hy, hlate⟩ := clockSet_replanAll_late now hd hen hstate
    exact ⟨y, (entry_of_deliveries (retired_deliveries _ _ _) j).trans hy, hlate⟩
end
